-- ==== Sys2Proof/Word.lean ====
section
/-! DEFINITION. The byte, the one machine word this block handles: frames and stored records are
strings of bytes (R2, R191). Every other quantity of the spec is an integer (R1) and is held as one. -/
namespace Sys2Proof

/-- A byte of a frame or of a stored record. -/
abbrev Byte := BitVec 8

/-- A byte from a number, modulo 256. -/
def byte (n : Nat) : Byte := BitVec.ofNat 8 n

end Sys2Proof
end

