-- ==== Sys2Proof/Syntax.lean ====
section
/-! DEFINITION. The commands the block takes: one constructor for each row of spec/opcode_table.json, and
the frames (R4, R191) that some of them carry. -/
namespace Sys2Proof

/-- The role of a link (00_scope.md, Terms; codes in R191). -/
inductive Role where
  | unused | source | module | click
deriving DecidableEq, Repr

/-- The state of the part, as a PRESENCE frame reports it (R17, R188). -/
inductive PartState where
  | loading | ready
deriving DecidableEq, Repr

/-- A frame of a stage link with the fields of R4. Codes and byte places are those of R191
(Machine/Frames.lean). -/
inductive Frame where
  /-- channel, key, velocity -/
  | noteOn (ch key vel : Nat)
  /-- channel, key, release velocity -/
  | noteOff (ch key vel : Nat)
  /-- channel, key (255 for the whole channel), value -/
  | pressure (ch key val : Nat)
  | control (ch num val : Nat)
  | bend (ch val : Nat)
  /-- channel, state 0 (off) or 1 (on) -/
  | hold (ch state : Nat)
  | program (ch bank prog : Nat)
  /-- channel, or 255 for all channels -/
  | silence (ch : Nat)
  /-- pulse index in the beat -/
  | clock (pulse : Nat)
  | beat (bar : Int) (beat bpb tempo : Nat)
  | click (level beat sub : Nat)
  | presence (role : Role) (part : PartState)
  | mgmtReq (code tag : Byte) (args : List Byte)
  | mgmtReply (code tag status : Byte) (data : List Byte)
  | notice (code : Byte) (data : List Byte)
deriving DecidableEq, Repr

/-- What the receiver of a link has of one run of bytes between two gaps (R2): the bytes, whether a byte
came with its stop bit missing, and the instant at which the last byte's stop bit ended. The receiver
keeps the first 27 bytes only; a longer list stands for a longer run. -/
structure Run where
  bytes : List Byte
  stopMissing : Bool
  arrival : Nat
deriving DecidableEq, Repr

/-- The commands, in the order of spec/opcode_table.json. A delivered frame's link is `l`; `pos` and `src`
are arbiter positions and sources 0 to 12, 12 being the pedal interface. `tag` and `args` are those of a
MGMT_REQ frame; for a COMMAND, `args` are the bytes after the command code. `instant` is the instant of an
event on a pin, on the 1 µs timebase. -/
inductive Instr where
  | powerOn
  /-- `image`: the bytes read from the flash -/
  | imageLoadDone (instant : Nat) (image : List Byte)
  | loadTimeout
  | frameReceived (l : Fin 12) (run : Run)
  | silenceTimerExpiry (l : Fin 12)
  | noteOn (l : Fin 12) (ch key vel : Nat)
  | noteOff (l : Fin 12) (ch key vel : Nat)
  | pressure (l : Fin 12) (ch key val : Nat)
  /-- from link `src`, or from a pedal for `src` = 12 -/
  | control (src : Fin 13) (ch num val : Nat)
  | bend (l : Fin 12) (ch val : Nat)
  /-- granted at position `pos`; from a footswitch (`pos` = 12) the source is the one its record names -/
  | hold (pos src : Fin 13) (ch state : Nat)
  /-- `arrival`: the arrival time that travels with the frame (R2) -/
  | beat (l : Fin 12) (arrival : Nat) (bar : Int) (beat bpb tempo : Nat)
  | followSilenceTimerExpiry
  | transmitStart (l : Fin 12)
  | frameTransmitted (l : Fin 12)
  | presenceTimerExpiry (l : Fin 12)
  | recallFeed (l : Fin 12)
  | settleTimerExpiry (l : Fin 12)
  | drainMove (l : Fin 12)
  | lateTimerExpiry (l : Fin 12)
  | tableFullTimerExpiry
  | pulse
  | beatBoundary
  /-- `samples`: the ADC samples taken since the evaluation before, oldest first, the last one at `instant`; with
  fewer than complete the 8, they only join the history -/
  | pedalEvaluation (p : Fin 4) (instant : Nat) (samples : List Nat)
  | footswitchPress (f : Fin 4) (instant : Nat)
  | footswitchRelease (f : Fin 4) (instant : Nat)
  | panicHoldTimerExpiry (f : Fin 4)
  | editSlotTimeout (slot : Fin 4)
  /-- `image`: the bytes read back -/
  | saveDone (instant : Nat) (image : List Byte)
  | saveTimeout
  | identify (l : Fin 12) (tag : Byte) (args : List Byte)
  | read (l : Fin 12) (tag : Byte) (args : List Byte)
  | status (l : Fin 12) (tag : Byte) (args : List Byte)
  | editOpen (l : Fin 12) (tag : Byte) (args : List Byte)
  | editPut (l : Fin 12) (tag : Byte) (args : List Byte)
  | editAbandon (l : Fin 12) (tag : Byte) (args : List Byte)
  | editCommit (l : Fin 12) (tag : Byte) (args : List Byte)
  | select (l : Fin 12) (tag : Byte) (args : List Byte)
  | nextScene (l : Fin 12) (tag : Byte) (args : List Byte)
  | prevScene (l : Fin 12) (tag : Byte) (args : List Byte)
  | nextSong (l : Fin 12) (tag : Byte) (args : List Byte)
  | prevSong (l : Fin 12) (tag : Byte) (args : List Byte)
  | apply (l : Fin 12) (tag : Byte) (args : List Byte)
  | cancelSwitch (l : Fin 12) (tag : Byte) (args : List Byte)
  | engageOverlay (l : Fin 12) (tag : Byte) (args : List Byte)
  | releaseOverlay (l : Fin 12) (tag : Byte) (args : List Byte)
  | start (l : Fin 12) (tag : Byte) (args : List Byte)
  | stop (l : Fin 12) (tag : Byte) (args : List Byte)
  | tap (l : Fin 12) (tag : Byte) (args : List Byte)
  | setTempo (l : Fin 12) (tag : Byte) (args : List Byte)
  | panic (l : Fin 12) (tag : Byte) (args : List Byte)
  | histogramEnable (l : Fin 12) (tag : Byte) (args : List Byte)
  | histogramClear (l : Fin 12) (tag : Byte) (args : List Byte)
  | clearStats (l : Fin 12) (tag : Byte) (args : List Byte)
  | clearFault (l : Fin 12) (tag : Byte) (args : List Byte)
  | saveImage (l : Fin 12) (tag : Byte) (args : List Byte)
  | restart (l : Fin 12) (tag : Byte) (args : List Byte)
  /-- `frame`: the delivered frame that no block takes -/
  | frameNotRouted (l : Fin 12) (frame : Frame)
  /-- `code`: the request code, and for code 8 `args` begins with the command code -/
  | unknownRequestCode (l : Fin 12) (code tag : Byte) (args : List Byte)
  /-- `high`: the level of the input at the sample -/
  | footswitchSample (f : Fin 4) (instant : Nat) (high : Bool)
deriving DecidableEq, Repr

end Sys2Proof
end

