-- ==== Sys2Proof/Decode.lean ====
section
/-! DEFINITION. The command that a word of spec/opcode_table.json spells. No row of this table gives any bits
(every row's "fields" are empty and none has "fixed"), so no word spells a command. -/
namespace Sys2Proof

/-- The command of a table word: none, for every word. -/
def decodeTableWord (_nbits _w : Nat) : Option Instr := none

end Sys2Proof
end

