-- ==== Sys2Proof/Config.lean ====
section
/-! DEFINITION. What the reference fixes for every part (capacities and durations, 00_scope.md and the
rules named), and the three FREE VALUES: constants without a body, so that no proof can lean on a value. -/
namespace Sys2Proof.Config

/-- FREE VALUE. Which of the events that stand at one instant is taken first, when the rules say that
either may be (R12, R17, R41, R66, R105, R142, R155). Log entry 3. -/
opaque choice : Nat → Nat

/-- FREE VALUE. A byte of the fault record that a refused request names no value for, because its
argument is missing (R178). Log entry 12. -/
opaque unnamedByte : Nat → Byte

/-- FREE VALUE. What the ADC of a pedal reads (R167) when the part takes a sample that no command brings, by
the count of free values drawn and the pedal. Log entry 18. -/
opaque adcSample : Nat → Nat → Nat

/-- R6: frames in a receive FIFO. -/
abbrev fifoSize : Nat := 16
/-- R41: entries in the held-note table. -/
abbrev tableSize : Nat := 128
/-- R43: the greatest destination count. -/
abbrev maxCount : Nat := 7
/-- R24, R31: copies or frames that one event may give. -/
abbrev fanOut : Nat := 8
/-- R67: frames in a real-time list. -/
abbrev realTimeSize : Nat := 3
/-- R70: frames in an output queue. -/
abbrev queueSize : Nat := 64
/-- R65: frames in a deferral queue. -/
abbrev deferralSize : Nat := 32
/-- R18: the value at which a 16-bit event counter stays. -/
abbrev counterMax : Nat := 65535
/-- R85: the value at which a wait-histogram bin stays. -/
abbrev binMax : Nat := 4294967295

/-- R2: the receiver judges a run this long after its last byte, in µs. -/
abbrev gap : Nat := 20
/-- R12: the silence timer of a link, in µs. -/
abbrev silenceTime : Nat := 300000
/-- R17: the presence timer of a link, in µs. -/
abbrev presenceTime : Nat := 100000
/-- R86, R50: the LATE alert timer and the TABLE_FULL timer, in µs. -/
abbrev alertTime : Nat := 1000000
/-- R182: the idle timer of an edit slot, in µs. -/
abbrev slotTime : Nat := 2000000
/-- R174: the hold timer of a PANIC footswitch, in µs. -/
abbrev panicTime : Nat := 2000000
/-- R167: the time between two samples of a pedal, in µs. -/
abbrev sampleTime : Nat := 1000
/-- R167: the samples between two evaluations of a pedal, and those its average is taken over. -/
abbrev samplesHeld : Nat := 8
/-- R188: the time the image read may take, in µs. -/
abbrev loadTime : Nat := 300000
/-- R189: the time a save may take, in µs. -/
abbrev saveTime : Nat := 1500000

/-- R127: the least and the greatest tempo. -/
abbrev minTempo : Nat := 3000
abbrev maxTempo : Nat := 30000
/-- R130: the accumulator's units in one pulse, 2^28. -/
abbrev pulseUnits : Nat := 268435456
/-- R130: pulses in one beat. -/
abbrev pulsesPerBeat : Nat := 240
/-- R136, R145: the shortest and longest interval between taps or beats, in µs. -/
abbrev minInterval : Nat := 200000
abbrev maxInterval : Nat := 2000000

end Sys2Proof.Config
end

