-- ==== Sys2Proof/Machine/Arith.lean ====
section
/-! DEFINITION. The roundings and limits of R1, saturating counters, and the byte order and signs of R191. -/
namespace Sys2Proof.Machine

/-- R1, "rounded": the nearest integer to `x / d`, exact halves going up. -/
def roundDiv (x d : Nat) : Nat := (2 * x + d) / (2 * d)

/-- R1, "limited to": the nearer end of the range when `x` falls outside it. -/
def limit (lo hi x : Nat) : Nat := if x < lo then lo else if hi < x then hi else x

/-- R1, "limited to", on integers. -/
def limitInt (lo hi x : Int) : Int := if x < lo then lo else if hi < x then hi else x

/-- 00_scope.md, Counters: a 16-bit event counter rises by `k` and stays at 65535. -/
def bump (n k : Nat) : Nat := if n + k < Config.counterMax then n + k else Config.counterMax

/-- R191: a two-byte value, high byte first. -/
def be16 (n : Nat) : List Byte := [byte (n / 256), byte n]

/-- R181, R187: a four-byte value. R191 gives the byte order of two-byte values only; that a four-byte value too
has its high byte first is the model's choice (log entry 43). -/
def be32 (n : Nat) : List Byte := [byte (n / 16777216), byte (n / 65536), byte (n / 256), byte n]

/-- R191: a signed two-byte value, two's complement. -/
def be16Int (i : Int) : List Byte := be16 (i % 65536).toNat

/-- R191: a signed byte, two's complement. -/
def byteInt (i : Int) : Byte := byte (i % 256).toNat

/-- The byte at an offset. -/
def u8At (b : List Byte) (i : Nat) : Nat := (b.getD i 0).toNat

/-- R191: the two-byte value at an offset. -/
def u16At (b : List Byte) (i : Nat) : Nat := 256 * u8At b i + u8At b (i + 1)

/-- R191: the signed byte at an offset. -/
def s8At (b : List Byte) (i : Nat) : Int := if u8At b i < 128 then u8At b i else (u8At b i : Int) - 256

/-- R191: the signed two-byte value at an offset. -/
def s16At (b : List Byte) (i : Nat) : Int := if u16At b i < 32768 then u16At b i else (u16At b i : Int) - 65536

/-- The sum of a list of bytes, as integers. -/
def sumBytes : List Byte → Nat
  | [] => 0
  | b :: r => b.toNat + sumBytes r

/-- The bytes of a record with those from `off` on replaced by `new` (R182). -/
def putBytes (b : List Byte) (off : Nat) (new : List Byte) : List Byte :=
  b.take off ++ new ++ b.drop (off + new.length)

/-- Flags eight to a byte, the first in the top bit of the first byte, padded with 0 bits (R181). -/
def packByte (f : List Bool) : Byte :=
  byte ((List.zipWith (fun i (b : Bool) => if b then 2 ^ (7 - i) else 0) (List.range 8) f).foldl (· + ·) 0)

/-- A group of `8 * n` flags as `n` bytes (R181). -/
def packFlags : Nat → List Bool → List Byte
  | 0, _ => []
  | n + 1, f => packByte (f.take 8) :: packFlags n (f.drop 8)

end Sys2Proof.Machine
end

