-- ==== Sys2Proof/Machine/Frames.lean ====
section
/-! DEFINITION. Frames on the line: the codes and byte places of R191, the accepted values of R4, and the
form and check of R2 and R3. -/
namespace Sys2Proof.Machine

/-- R191: the code of a role. -/
def Role.code : Role → Nat
  | .unused => 0 | .source => 1 | .module => 2 | .click => 3

/-- R191: the role of a code. -/
def Role.ofCode : Nat → Role
  | 1 => .source | 2 => .module | 3 => .click | _ => .unused

/-- R191: the code of the part state. -/
def PartState.code : PartState → Nat
  | .loading => 0 | .ready => 1

/-- R191: the part state of a code. -/
def PartState.ofCode : Nat → PartState
  | 1 => .ready | _ => .loading

/-- R191: the kind code of a frame, 1 to 15. -/
def Frame.kind : Frame → Nat
  | .noteOn .. => 1 | .noteOff .. => 2 | .pressure .. => 3 | .control .. => 4 | .bend .. => 5
  | .hold .. => 6 | .program .. => 7 | .silence .. => 8 | .clock .. => 9 | .beat .. => 10
  | .click .. => 11 | .presence .. => 12 | .mgmtReq .. => 13 | .mgmtReply .. => 14 | .notice .. => 15

/-- R191: the payload of a frame, by offset. -/
def Frame.payload : Frame → List Byte
  | .noteOn ch key vel => [byte ch, byte key, byte vel]
  | .noteOff ch key vel => [byte ch, byte key, byte vel]
  | .pressure ch key val => [byte ch, byte key, byte val]
  | .control ch num val => [byte ch, byte num] ++ be16 val
  | .bend ch val => byte ch :: be16 val
  | .hold ch state => [byte ch, byte state]
  | .program ch bank prog => byte ch :: be16 bank ++ [byte prog]
  | .silence ch => [byte ch]
  | .clock pulse => [byte pulse]
  | .beat bar beat bpb tempo => be16Int bar ++ [byte beat, byte bpb] ++ be16 tempo
  | .click level beat sub => [byte level, byte beat, byte sub]
  | .presence role part => [byte (Role.code role), byte (PartState.code part)]
  | .mgmtReq code tag args => code :: tag :: args
  | .mgmtReply code tag status data => code :: tag :: status :: data
  | .notice code data => code :: data

/-- R2: kind, length, payload and the check byte that makes the sum 0 modulo 256. -/
def Frame.bytes (f : Frame) : List Byte :=
  let body := byte (Frame.kind f) :: byte (Frame.payload f).length :: Frame.payload f
  body ++ [byte (256 - sumBytes body % 256)]

/-- R16: the number of bytes a frame has on the line. -/
def Frame.size (f : Frame) : Nat := (Frame.payload f).length + 3

/-- R4: the accepted values of the fields, and the length range of the three management kinds. -/
def Frame.accepted : Frame → Bool
  | .noteOn ch key vel => ch < 32 && key < 128 && 1 ≤ vel && vel < 128
  | .noteOff ch key vel => ch < 32 && key < 128 && vel < 128
  | .pressure ch key val => ch < 32 && (key < 128 || key == 255) && val < 128
  | .control ch num val => ch < 32 && num < 256 && val < 1024
  | .bend ch val => ch < 32 && val < 16384
  | .hold ch state => ch < 32 && state < 2
  | .program ch bank prog => ch < 32 && bank < 16384 && prog < 128
  | .silence ch => ch < 32 || ch == 255
  | .clock pulse => pulse < 240
  | .beat bar beat bpb tempo =>
    (bar == -2 || bar == -1 || (1 ≤ bar && bar ≤ 32767)) && beat < bpb && 1 ≤ bpb && bpb ≤ 16
      && 3000 ≤ tempo && tempo ≤ 30000
  | .click level beat sub => 1 ≤ level && level ≤ 3 && beat < 16 && sub < 6
  | .presence _ _ => true
  | .mgmtReq _ _ args => args.length ≤ 22
  | .mgmtReply _ _ _ data => data.length ≤ 21
  | .notice _ data => data.length ≤ 23

/-- R191: the frame whose kind and payload these are, read by offset, whatever its values; none where R4
gives the kind another length, no such kind, or a PRESENCE frame another role or part state. -/
def Frame.parse (kind : Nat) (p : List Byte) : Option Frame :=
  match kind, p.length with
  | 1, 3 => some (.noteOn (u8At p 0) (u8At p 1) (u8At p 2))
  | 2, 3 => some (.noteOff (u8At p 0) (u8At p 1) (u8At p 2))
  | 3, 3 => some (.pressure (u8At p 0) (u8At p 1) (u8At p 2))
  | 4, 4 => some (.control (u8At p 0) (u8At p 1) (u16At p 2))
  | 5, 3 => some (.bend (u8At p 0) (u16At p 1))
  | 6, 2 => some (.hold (u8At p 0) (u8At p 1))
  | 7, 4 => some (.program (u8At p 0) (u16At p 1) (u8At p 3))
  | 8, 1 => some (.silence (u8At p 0))
  | 9, 1 => some (.clock (u8At p 0))
  | 10, 6 => some (.beat (s16At p 0) (u8At p 2) (u8At p 3) (u16At p 4))
  | 11, 3 => some (.click (u8At p 0) (u8At p 1) (u8At p 2))
  | 12, 2 =>
    if u8At p 0 < 4 && u8At p 1 < 2 then
      some (.presence (Role.ofCode (u8At p 0)) (PartState.ofCode (u8At p 1)))
    else none
  | 13, _ => match p with
    | code :: tag :: args => some (.mgmtReq code tag args)
    | _ => none
  | 14, _ => match p with
    | code :: tag :: status :: data => some (.mgmtReply code tag status data)
    | _ => none
  | 15, _ => match p with
    | code :: data => some (.notice code data)
    | _ => none
  | _, _ => none

/-- R2, R3: the run is a valid frame. -/
def Run.valid (r : Run) : Bool :=
  !r.stopMissing && decide (3 ≤ r.bytes.length) && decide (u8At r.bytes 1 ≤ 24)
    && r.bytes.length == u8At r.bytes 1 + 3 && sumBytes r.bytes % 256 == 0

/-- R4: the accepted frame of a valid run; none when the frame is malformed. -/
def Run.frame (r : Run) : Option Frame :=
  match Frame.parse (u8At r.bytes 0) ((r.bytes.drop 2).take (u8At r.bytes 1)) with
  | some f => if Frame.accepted f then some f else none
  | none => none

/-- R67: CLOCK, BEAT and CLICK, the frames of the beat engine. -/
def Frame.realTime : Frame → Bool
  | .clock .. => true | .beat .. => true | .click .. => true | _ => false

/-- R84: the kinds RESTART removes from an output queue (recall frames are PROGRAM or CONTROL frames). -/
def Frame.performance : Frame → Bool
  | .noteOn .. => true | .control .. => true | .bend .. => true | .pressure .. => true
  | .program .. => true | _ => false

/-- R8: the kinds that go to the event router. -/
def Frame.routedKind : Frame → Bool
  | .noteOn .. => true | .noteOff .. => true | .pressure .. => true | .control .. => true
  | .bend .. => true | .hold .. => true | _ => false

end Sys2Proof.Machine
end

