-- ==== Sys2Proof/Machine/Bank.lean ====
section
/-! DEFINITION. A fixed number of like things (the twelve links, the four pedals, the records of one table)
is a Vector; these are the only ways the model reads or writes one. -/
namespace Sys2Proof.Machine

variable {α β : Type} {n : Nat}

/-- The `i`-th member, or `d` when there is none. -/
def bankGet (v : Vector α n) (i : Nat) (d : α) : α := v[i]?.getD d

/-- The bank with its `i`-th member replaced; unchanged when there is none. -/
def bankSet (v : Vector α n) (i : Nat) (x : α) : Vector α n := v.setIfInBounds i x

/-- `f` applied to every member. -/
def bankMap (f : α → β) (v : Vector α n) : Vector β n := ⟨⟨v.toList.map f⟩, by simp⟩

/-- `f` applied to every member, with its number. -/
def bankMapIdx (f : Nat → α → β) (v : Vector α n) : Vector β n :=
  ⟨⟨List.zipWith f (List.range n) v.toList⟩, by simp⟩

end Sys2Proof.Machine
end

