-- ==== Sys2Proof/Machine/Records.lean ====
section
/-! DEFINITION. The records of the scene store: the byte layouts of R191, what the fields mean (R20, R90 to
R95, R98, R167, R172), the defaults (R89, R167, R172, R188) and the tables that READ and EDIT_OPEN name. -/
namespace Sys2Proof.Machine

/-- The rights of a link, a ladder (00_scope.md, Terms). -/
inductive Rights where
  | none | command | read | full
deriving DecidableEq, Repr

/-- R191: the code of a right, which is also its height on the ladder (R177). -/
def Rights.code : Rights → Nat
  | .none => 0 | .command => 1 | .read => 2 | .full => 3

/-- R191: the right of a code. -/
def Rights.ofCode : Nat → Rights
  | 1 => .command | 2 => .read | 3 => .full | _ => .none

/-- The gate of a request (R106). -/
inductive Gate where
  | immediate | atBar | atRelease
deriving DecidableEq, Repr

/-- R191: the code of a gate. -/
def Gate.code : Gate → Nat
  | .immediate => 0 | .atBar => 1 | .atRelease => 2

/-- R191: the gate of a code. -/
def Gate.ofCode : Nat → Gate
  | 1 => .atBar | 2 => .atRelease | _ => .immediate

/-- R20: a zone of the live copy. `srcCh` is none for ANY and `destCh` none for SAME. -/
structure Zone where
  source : Nat
  srcCh : Option Nat
  keyLow : Nat
  keyHigh : Nat
  velLow : Nat
  velHigh : Nat
  destLink : Nat
  destCh : Option Nat
  transpose : Int
  scale : Nat
  offset : Int
  holdFollow : Bool
  passPressure : Bool
  passBend : Bool
  passControl : Bool
deriving DecidableEq, Repr

/-- R93: an overlay of the live copy. -/
structure Overlay where
  replace : Bool
  zones : List Zone
deriving DecidableEq, Repr

/-- R92: a recall entry, as the frame it becomes (R76): PROGRAM or CONTROL. -/
structure Recall where
  link : Nat
  frame : Frame
deriving DecidableEq, Repr

/-- R155: the three click settings. -/
structure Click where
  accents : List Nat
  subdivision : Nat
  level : Nat
deriving DecidableEq, Repr

/-- The bytes of one record. -/
abbrev Record := List Byte

/-- `n` bytes from an offset. -/
def Record.slice (r : Record) (off n : Nat) : Record := (r.drop off).take n

/-- R191: bit `n` of the byte at an offset. -/
def Record.flag (r : Record) (off n : Nat) : Bool := (u8At r off).testBit n

/-- R191: a channel byte, 255 standing for ANY or SAME. -/
def Record.channel (r : Record) (off : Nat) : Option Nat :=
  if u8At r off = 255 then none else some (u8At r off)

/-- R191: the zone that 12 bytes from an offset hold. -/
def Record.zone (r : Record) (o : Nat) : Zone :=
  { source := u8At r o, srcCh := Record.channel r (o + 1), keyLow := u8At r (o + 2),
    keyHigh := u8At r (o + 3), velLow := u8At r (o + 4), velHigh := u8At r (o + 5),
    destLink := u8At r (o + 6), destCh := Record.channel r (o + 7), transpose := s8At r (o + 8),
    scale := u8At r (o + 9), offset := s8At r (o + 10), holdFollow := Record.flag r (o + 11) 0,
    passPressure := Record.flag r (o + 11) 1, passBend := Record.flag r (o + 11) 2,
    passControl := Record.flag r (o + 11) 3 }

/-- R191, R76: the recall entry that 6 bytes from an offset hold. -/
def Record.recall (r : Record) (o : Nat) : Recall :=
  { link := u8At r o,
    frame := if u8At r (o + 1) = 0 then .program (u8At r (o + 2)) (u16At r (o + 3)) (u8At r (o + 5))
             else .control (u8At r (o + 2)) (u8At r (o + 3)) (u16At r (o + 4)) }

/-- R93, R191: the overlay that 50 bytes from an offset hold, its zones in use. -/
def Record.overlay (r : Record) (o : Nat) : Overlay :=
  { replace := u8At r o == 1,
    zones := (List.range (u8At r (o + 1))).map fun i => Record.zone r (o + 2 + 12 * i) }

/-- R91: the zones in use of a scene record. -/
def Record.zones (r : Record) : List Zone := (List.range (u8At r 23)).map fun i => Record.zone r (32 + 12 * i)

/-- R92: the recall entries in use of a scene record. -/
def Record.recalls (r : Record) : List Recall := (List.range (u8At r 24)).map fun i => Record.recall r (224 + 6 * i)

/-- R93: the overlays in use of a scene record. -/
def Record.overlays (r : Record) : List Overlay := (List.range (u8At r 25)).map fun i => Record.overlay r (320 + 50 * i)

/-- R191: the 16 accent levels, two bits each, beat 0 in the top bits of byte 26. -/
def Record.accents (r : Record) : List Nat :=
  (List.range 16).map fun i => u8At r (26 + i / 4) / 4 ^ (3 - i % 4) % 4

/-- R90: the click settings of a scene record. -/
def Record.click (r : Record) : Click :=
  { accents := Record.accents r, subdivision := u8At r 20, level := u8At r 21 }

/-- R95: the scene count of a song entry. -/
def Record.sceneCount (r : Record) : Nat := u8At r 16

/-- R95: SEGUE of a song entry. -/
def Record.segue (r : Record) : Bool := Record.flag r 17 0

/-- R95: the record number that a scene index of a song stands for. -/
def Record.sceneRef (r : Record) (i : Nat) : Nat := u8At r (18 + i)

/-- R95: the cues in use of a song entry, bar and scene index. -/
def Record.cues (r : Record) : List (Nat × Nat) :=
  (List.range (u8At r 26)).map fun i => (u16At r (27 + 3 * i), u8At r (29 + 3 * i))

/-- R191: the tables, in code order. -/
inductive Table where
  | scene | song | link | pedal | footswitch | system
deriving DecidableEq, Repr

/-- R191: the table of a code. -/
def Table.ofCode : Nat → Option Table
  | 0 => some .scene | 1 => some .song | 2 => some .link | 3 => some .pedal | 4 => some .footswitch
  | 5 => some .system | _ => none

/-- R191: the code of a table. -/
def Table.code : Table → Nat
  | .scene => 0 | .song => 1 | .link => 2 | .pedal => 3 | .footswitch => 4 | .system => 5

/-- R89: the number of records of a table. -/
def Table.size : Table → Nat
  | .scene => 64 | .song => 48 | .link => 12 | .pedal => 4 | .footswitch => 4 | .system => 1

/-- R191: the length of a record of a table. -/
def Table.length : Table → Nat
  | .scene => 520 | .song => 53 | .link => 7 | .pedal => 10 | .footswitch => 7 | .system => 10

/-- R191: the offset of the two generation bytes. -/
def Table.genOffset : Table → Nat
  | .scene => 30 | .song => 51 | .link => 5 | .pedal => 8 | .footswitch => 5 | .system => 8

/-- R89: the scene store. Each record is held as its bytes, unused places included, with its generation
among them (R99). -/
structure Store where
  scenes : Vector Record 64
  songs : Vector Record 48
  links : Vector Record 12
  pedals : Vector Record 4
  foots : Vector Record 4
  system : Record
deriving DecidableEq, Repr

/-- R89: default scene record: name of zero bytes, tempo 0, beats per bar 4, subdivision 1, accents 3, 2, 2, …,
no zones, recall entries or overlays. That the bytes of their unused places are 0 is the model's choice (log
entry 37). -/
def Record.defaultScene : Record :=
  List.replicate 19 0 ++ [byte 4, byte 1] ++ List.replicate 5 0 ++ [byte 0xEA, byte 0xAA, byte 0xAA, byte 0xAA]
    ++ List.replicate 490 0

/-- R89: default song entry: scene count 1, scene reference 0 in all 8 places, SEGUE clear, no cues. That the
bytes of the unused cue places are 0 is the model's choice (log entry 37). -/
def Record.defaultSong : Record := List.replicate 16 0 ++ [byte 1] ++ List.replicate 36 0

/-- R188: default link record: link 0 SOURCE with FULL rights, the others UNUSED with NONE. -/
def Record.defaultLink (l : Nat) : Record :=
  if l = 0 then [byte 1, byte 3, 0, 0, 0, 0, 0] else List.replicate 7 0

/-- R167: default pedal record: lo 0, hi 1015, H 8, all else clear. -/
def Record.defaultPedal : Record := [0, 0, 0, 0, 0] ++ be16 1015 ++ [byte 8, 0, 0]

/-- R172: default footswitch record: NONE, CLOSED_PRESSED, D 10, argument 0. -/
def Record.defaultFoot : Record := [0, 0, byte 10, 0, 0, 0, 0]

/-- R188: default system record: all fields 0. -/
def Record.defaultSystem : Record := List.replicate 10 0

/-- R89, R188: the store of defaults, every generation 0. -/
def Store.defaults : Store :=
  { scenes := Vector.replicate 64 Record.defaultScene,
    songs := Vector.replicate 48 Record.defaultSong,
    links := ⟨⟨(List.range 12).map Record.defaultLink⟩, by simp⟩,
    pedals := Vector.replicate 4 Record.defaultPedal,
    foots := Vector.replicate 4 Record.defaultFoot,
    system := Record.defaultSystem }

/-- The record at an index of a table; no bytes beyond the table's size. -/
def Store.get (s : Store) (t : Table) (i : Nat) : Record :=
  match t with
  | .scene => bankGet s.scenes i []
  | .song => bankGet s.songs i []
  | .link => bankGet s.links i []
  | .pedal => bankGet s.pedals i []
  | .footswitch => bankGet s.foots i []
  | .system => if i = 0 then s.system else []

/-- The store with one record replaced whole (R89). -/
def Store.set (s : Store) (t : Table) (i : Nat) (r : Record) : Store :=
  match t with
  | .scene => { s with scenes := bankSet s.scenes i r }
  | .song => { s with songs := bankSet s.songs i r }
  | .link => { s with links := bankSet s.links i r }
  | .pedal => { s with pedals := bankSet s.pedals i r }
  | .footswitch => { s with foots := bankSet s.foots i r }
  | .system => if i = 0 then { s with system := r } else s

/-- R99: the generation of a record. -/
def Record.gen (t : Table) (r : Record) : Nat := u16At r (Table.genOffset t)

/-- R183: a record's bytes with its generation bytes replaced. -/
def Record.withGen (t : Table) (r : Record) (g : Nat) : Record := putBytes r (Table.genOffset t) (be16 g)

/-- R98: the set length. -/
def Store.setLength (s : Store) : Nat := u8At s.system 0
/-- R98: the start-up song. -/
def Store.startSong (s : Store) : Nat := u8At s.system 1
/-- R143, R191: the follow enable, bit value 1 of the flags byte. -/
def Store.followEnable (s : Store) : Bool := Record.flag s.system 2 0
/-- R143: the follow link. -/
def Store.followLink (s : Store) : Nat := u8At s.system 3
/-- R186: the report link. -/
def Store.reportLink (s : Store) : Nat := u8At s.system 4
/-- R85: a link's bit of the histogram mask. -/
def Store.histMask (s : Store) (l : Nat) : Bool := (u16At s.system 5).testBit l
/-- R86: a bin's bit of the alert mask. -/
def Store.alertMask (s : Store) (bin : Nat) : Bool := (u8At s.system 7).testBit bin
/-- R78: a link's settle time, in µs. -/
def Store.settleTime (s : Store) (l : Nat) : Nat := 1000 * u16At (s.get .link l) 2
/-- R161: a link's clock divisor. -/
def Store.divisor (s : Store) (l : Nat) : Nat := u8At (s.get .link l) 4
/-- R95: the scene count of a song entry of the store, C(n) of R108. -/
def Store.sceneCount (s : Store) (n : Nat) : Nat := Record.sceneCount (s.get .song n)

/-- The function of a footswitch (R172, R173). -/
inductive FootFunction where
  | none | nextScene | prevScene | nextSong | prevSong | tap | startStop | overlay | overlayLatch | hold | panic
deriving DecidableEq, Repr

/-- R191: the footswitch function of a code. -/
def FootFunction.ofCode : Nat → FootFunction
  | 1 => .nextScene | 2 => .prevScene | 3 => .nextSong | 4 => .prevSong | 5 => .tap | 6 => .startStop
  | 7 => .overlay | 8 => .overlayLatch | 9 => .hold | 10 => .panic | _ => .none

/-- R191: the function of a footswitch record. -/
def Record.footFunction (r : Record) : FootFunction := FootFunction.ofCode (u8At r 0)

/-- R172: whether a high level means pressed (OPEN_PRESSED). -/
def Record.highPressed (r : Record) : Bool := u8At r 1 == 1

/-! ### Validation: the offset of the first failing field, in record order (R94, R97, R184) -/

/-- A field that must satisfy a test: its offset when it does not. -/
def checkField (off : Nat) (ok : Bool) : Option Nat := if ok then none else some off

/-- The first failure of a list of checks. -/
def firstFailure : List (Option Nat) → Option Nat
  | [] => none
  | some o :: _ => some o
  | none :: r => firstFailure r

/-- R20, R94: the tests of a zone. A pair out of order fails at its second field. -/
def Record.checkZone (r : Record) (o : Nat) : Option Nat :=
  let z := Record.zone r o
  firstFailure [
    checkField o (z.source ≤ 12),
    checkField (o + 1) (z.srcCh.all fun c => decide (c < 32)),
    checkField (o + 2) (z.keyLow < 128),
    checkField (o + 3) (z.keyHigh < 128 && z.keyLow ≤ z.keyHigh),
    checkField (o + 4) (1 ≤ z.velLow && z.velLow < 128),
    checkField (o + 5) (1 ≤ z.velHigh && z.velHigh < 128 && z.velLow ≤ z.velHigh),
    checkField (o + 6) (z.destLink < 12),
    checkField (o + 7) (z.destCh.all fun c => decide (c < 32)),
    checkField (o + 8) (-48 ≤ z.transpose && z.transpose ≤ 48),
    checkField (o + 10) (-127 ≤ z.offset)]

/-- R92, R94: the tests of a recall entry. -/
def Record.checkRecall (r : Record) (o : Nat) : Option Nat :=
  firstFailure ([
    checkField o (u8At r o < 12),
    checkField (o + 1) (u8At r (o + 1) < 2),
    checkField (o + 2) (u8At r (o + 2) < 32)] ++
    if u8At r (o + 1) = 0 then
      [checkField (o + 3) (u16At r (o + 3) < 16384), checkField (o + 5) (u8At r (o + 5) < 128)]
    else [checkField (o + 4) (u16At r (o + 4) < 1024)])

/-- R93, R94: the tests of an overlay. -/
def Record.checkOverlay (r : Record) (o : Nat) : Option Nat :=
  firstFailure ([
    checkField o (u8At r o < 2),
    checkField (o + 1) (1 ≤ u8At r (o + 1) && u8At r (o + 1) ≤ 4)] ++
    (List.range (u8At r (o + 1))).map fun i => Record.checkZone r (o + 2 + 12 * i))

/-- R94: the validation of a scene record. -/
def Record.checkScene (r : Record) : Option Nat :=
  firstFailure ([
    checkField 16 (u16At r 16 == 0 || (3000 ≤ u16At r 16 && u16At r 16 ≤ 30000)),
    checkField 18 (u8At r 18 ≤ 16),
    checkField 19 (1 ≤ u8At r 19 && u8At r 19 ≤ 16),
    checkField 20 ([1, 2, 3, 4, 6].contains (u8At r 20)),
    checkField 21 (u8At r 21 ≤ 3),
    checkField 22 (u8At r 22 ≤ 2),
    checkField 23 (u8At r 23 ≤ 16),
    checkField 24 (u8At r 24 ≤ 16),
    checkField 25 (u8At r 25 ≤ 4)] ++
    (List.range (u8At r 23)).map (fun i => Record.checkZone r (32 + 12 * i)) ++
    (List.range (u8At r 24)).map (fun i => Record.checkRecall r (224 + 6 * i)) ++
    (List.range (u8At r 25)).map (fun i => Record.checkOverlay r (320 + 50 * i)))

/-- R97: the validation of a song entry. A cue not above the one before it fails at its bar. -/
def Record.checkSong (r : Record) : Option Nat :=
  firstFailure ([checkField 16 (1 ≤ u8At r 16 && u8At r 16 ≤ 8)] ++
    (List.range (u8At r 16)).map (fun i => checkField (18 + i) (u8At r (18 + i) < 64)) ++
    [checkField 26 (u8At r 26 ≤ 8)] ++
    ((List.range (u8At r 26)).map fun i =>
      firstFailure [
        checkField (27 + 3 * i) (2 ≤ u16At r (27 + 3 * i) && u16At r (27 + 3 * i) ≤ 9999
          && (i == 0 || u16At r (27 + 3 * (i - 1)) < u16At r (27 + 3 * i))),
        checkField (29 + 3 * i) (u8At r (29 + 3 * i) < u8At r 16)]))

/-- R184: while the follow enable is set, the link record of the follow link holds role SOURCE. -/
def Store.followSource (s : Store) : Bool := !s.followEnable || u8At (s.get .link s.followLink) 0 == 1

/-- R184: at least one link record holds FULL rights. -/
def Store.someFull (s : Store) : Bool := s.links.toList.any fun r => u8At r 1 == 3

/-- R184: the validation of the record of link `l`, in the store as it would stand after the commit. -/
def Store.checkLink (s : Store) (l : Nat) : Option Nat :=
  let r := s.get .link l
  firstFailure [
    checkField 0 (u8At r 0 < 4 && (s.followLink != l || s.followSource)),
    checkField 1 (u8At r 1 < 4 && s.someFull),
    checkField 2 (u16At r 2 ≤ 500),
    checkField 4 (u8At r 4 == 0 || 240 % u8At r 4 == 0)]

/-- R98, R184: the validation of the system record, in the store as it would stand after the commit. A start-up song
that does not go with the set length fails at its own offset (log entry 21). DEDUCED (log entry 51): R184's test of
the follow enable, 0 or 1, is one of the whole flags byte, so that a record with an unused flag bit set fails at it.
-/
def Store.checkSystem (s : Store) : Option Nat :=
  firstFailure [
    checkField 0 (s.setLength ≤ 48),
    checkField 1 (if s.setLength = 0 then s.startSong == 0 else s.startSong < s.setLength),
    checkField 2 (u8At s.system 2 < 2),
    checkField 3 (s.followLink < 12 && s.followSource),
    checkField 4 (s.reportLink < 12),
    checkField 5 (u16At s.system 5 < 4096)]

/-- R167: the validation of a pedal record. -/
def Record.checkPedal (r : Record) : Option Nat :=
  firstFailure [
    checkField 1 (u8At r 1 < 32),
    checkField 3 (u16At r 3 < 1024),
    checkField 5 (u16At r 5 < 1024 && u16At r 3 + 64 ≤ u16At r 5),
    checkField 7 (1 ≤ u8At r 7 && u8At r 7 ≤ 32)]

/-- R172: the validation of a footswitch record; the argument by the function. The second argument byte of
OVERLAY and OVERLAY_LATCH, which R191 lays out as 0, may hold any value (log entry 41). -/
def Record.checkFoot (r : Record) : Option Nat :=
  firstFailure ([
    checkField 0 (u8At r 0 ≤ 10),
    checkField 1 (u8At r 1 < 2),
    checkField 2 (1 ≤ u8At r 2 && u8At r 2 ≤ 31)] ++
    match Record.footFunction r with
    | .nextScene | .prevScene | .nextSong | .prevSong =>
      [checkField 3 (u8At r 3 < 3), checkField 4 (u8At r 4 ≤ 8)]
    | .overlay | .overlayLatch => [checkField 3 (u8At r 3 < 4)]
    | .hold => [checkField 3 (u8At r 3 ≤ 12), checkField 4 (u8At r 4 < 32)]
    | _ => [])

/-- R94, R97, R184: the offset at which the record at `i` of table `t` fails, in a store that holds it. -/
def Store.check (s : Store) (t : Table) (i : Nat) : Option Nat :=
  match t with
  | .scene => Record.checkScene (s.get .scene i)
  | .song => Record.checkSong (s.get .song i)
  | .link => s.checkLink i
  | .pedal => Record.checkPedal (s.get .pedal i)
  | .footswitch => Record.checkFoot (s.get .footswitch i)
  | .system => s.checkSystem

/-! ### The image (R187, R188) -/

/-- R187: every record of the store, in the order of the image. -/
def Store.records (s : Store) : List Record :=
  s.scenes.toList ++ s.songs.toList ++ s.links.toList ++ s.pedals.toList ++ s.foots.toList ++ [s.system]

/-- R187: the sum of the two-byte words, each read high byte first. -/
def wordSum : List Byte → Nat
  | hi :: lo :: r => 256 * hi.toNat + lo.toNat + wordSum r
  | [hi] => 256 * hi.toNat
  | [] => 0

/-- R187: the length of the records in the image. -/
def imageLength : Nat := 35986

/-- R187: the image of a store, its sum after its records. -/
def Store.image (s : Store) : List Byte :=
  let body := s.records.flatten
  body ++ be32 (wordSum body % 4294967296)

/-- R187, R188: the sum read equals the sum of the words. -/
def imageSumOk (b : List Byte) : Bool :=
  b.length == imageLength + 4 && b.drop imageLength == be32 (wordSum (b.take imageLength) % 4294967296)

/-- `n` records of one length, in order from an offset. -/
def imageTable (b : List Byte) (off len : Nat) (n : Nat) : Vector Record n :=
  ⟨⟨(List.range n).map fun i => Record.slice b (off + len * i) len⟩, by simp⟩

/-- R187: the store that an image holds. -/
def Store.ofImage (b : List Byte) : Store :=
  { scenes := imageTable b 0 520 64, songs := imageTable b 33280 53 48, links := imageTable b 35824 7 12,
    pedals := imageTable b 35908 10 4, foots := imageTable b 35948 7 4, system := Record.slice b 35976 10 }

/-- R188: every record passes the validation of an edit commit, judged against the whole image. -/
def Store.allValid (s : Store) : Bool :=
  [Table.scene, .song, .link, .pedal, .footswitch, .system].all fun t =>
    (List.range (Table.size t)).all fun i => (s.check t i).isNone

end Sys2Proof.Machine
end

