-- ==== Sys2Proof/Machine/Sparse.lean ====
section
/-! DEFINITION. A sparse map from addresses to numbers, in ONE canonical form: addresses strictly rising and
no entry 0, the value an unlisted address reads as. It holds the destination count map (R43) and the hold
flags (R44), both all 0 (clear) at power-on. The release set (R69) uses the same ordering, without the rule
against 0, since a release velocity may be 0. -/
namespace Sys2Proof.Machine

/-- Address and value pairs, addresses rising. -/
abbrev Sparse := List (Nat × Nat)

/-- The value at an address; 0 when it is not listed. -/
def Sparse.read : Sparse → Nat → Nat
  | [], _ => 0
  | (k, v) :: r, a => if k = a then v else Sparse.read r a

/-- The map with the entry of `a` left out. -/
def Sparse.drop : Sparse → Nat → Sparse
  | [], _ => []
  | (k, v) :: r, a => if k = a then r else (k, v) :: Sparse.drop r a

/-- The map with `a` listed as `v`, in its place. -/
def Sparse.put : Sparse → Nat → Nat → Sparse
  | [], a, v => [(a, v)]
  | (k, w) :: r, a, v =>
    if a < k then (a, v) :: (k, w) :: r else if a = k then (a, v) :: r else (k, w) :: Sparse.put r a v

/-- The map with the value at `a` written; writing 0 takes the entry away. -/
def Sparse.write (m : Sparse) (a v : Nat) : Sparse := if v = 0 then m.drop a else m.put a v

/-- Addresses strictly rising. -/
def Sparse.rising : Sparse → Bool
  | [] => true
  | [_] => true
  | (k, _) :: (k', v') :: r => decide (k < k') && Sparse.rising ((k', v') :: r)

/-- The canonical form. -/
def Sparse.wf (m : Sparse) : Bool := m.rising && m.all fun e => e.2 != 0

/-- R69: `a` joins with the value `v` unless it is listed already. -/
def Sparse.join : Sparse → Nat → Nat → Sparse
  | [], a, v => [(a, v)]
  | (k, w) :: r, a, v =>
    if a < k then (a, v) :: (k, w) :: r else if a = k then (k, w) :: r else (k, w) :: Sparse.join r a v

/-- R43: the address of the count of (link, channel, key). -/
def destAddr (link ch key : Nat) : Nat := 4096 * link + 128 * ch + key

/-- R69: the place of (channel, key) in a release set, which orders pairs by channel first and then by key. -/
def pairAddr (ch key : Nat) : Nat := 128 * ch + key

/-- R44: the place of the hold flag of (source, channel). -/
def holdAddr (src ch : Nat) : Nat := 32 * src + ch

end Sys2Proof.Machine
end

