-- ==== Sys2Proof/Machine/State.lean ====
section
/-! DEFINITION. Everything the spec gives the block to hold, as plain data, block by block, and the state
right after power-on. Four fields are the MODEL's own (the queue of waiting commands, the count of free
values drawn, the next copy identity, the pulse advances owed); each says so. Timers that run are held as the instant at which they
expire. -/
namespace Sys2Proof.Machine

/-- Why the machine stops with a fault. -/
inductive Fault where
  /-- Raised by a delivery command whose frame holds a value outside the ranges of R4: such a frame is
  malformed and never enters a receive FIFO, so no block ever takes it. Safe: the model stops where the
  hardware has no such event. -/
  | notAccepted
deriving DecidableEq, Repr

/-- Why the model gives a command no meaning. -/
inductive Refusal where
  /-- Raised by an arm of exec whose command has no meaning yet. Safe. -/
  | notModelled (mnemonic : String)
deriving DecidableEq, Repr

/-! ### The link interface (01_stage_links_and_frames.md) -/

/-- R18: the counters of a link. -/
structure LinkCounters where
  accepted : Nat := 0
  bad : Nat := 0
  malformed : Nat := 0
  overflows : Nat := 0
  notRouted : Nat := 0
  ignored : Nat := 0
  flushed : Nat := 0
  losses : Nat := 0
  sent : Nat := 0
  presenceSent : Nat := 0
deriving DecidableEq, Repr

/-- R2, R6: a frame in a receive FIFO, with its arrival time. -/
structure Received where
  frame : Frame
  arrival : Nat
deriving DecidableEq, Repr

/-- R16: the frame on the line, until its last byte's stop bit ends. `fromRecall` marks the fed frame of the
link's open recall window (R77). -/
structure OnLine where
  frame : Frame
  ends : Nat
  fromRecall : Bool
deriving DecidableEq, Repr

/-! ### The output scheduler (04_output_queues_and_transmission.md) -/

/-- R65, R70: a frame waiting in an output or deferral queue: its entry instant, for a NOTE_ON the identity
of its copy, and whether it is a recall frame. (R65 gives a deferred frame no entry instant; there the
field holds the instant it was offered, and the move of R79 writes it afresh.) -/
structure Waiting where
  frame : Frame
  entry : Nat
  copy : Option Nat
  fromRecall : Bool
deriving DecidableEq, Repr

/-- R65: the states of a recall window. -/
inductive WindowState where
  | closed | sending | settling | draining
deriving DecidableEq, Repr

/-- R65, R77, R78: a recall window: its state, the recall frames not yet fed, whether a fed frame has still
to be transmitted, and the instant it entered SETTLING (read in SETTLING only). -/
structure Window where
  state : WindowState := .closed
  todo : List Frame := []
  fed : Bool := false
  since : Nat := 0
deriving DecidableEq, Repr

/-- R88: the output counters of a link. -/
structure OutCounters where
  overruns : Nat := 0
  refusedNotes : Nat := 0
  droppedCtl : Nat := 0
  droppedReplies : Nat := 0
  coalesced : Nat := 0
  withdrawals : Nat := 0
  opened : Nat := 0
  restarts : Nat := 0
deriving DecidableEq, Repr

/-- R85: one bin of a wait histogram with its saturation flag. -/
structure Bin where
  count : Nat := 0
  saturated : Bool := false
deriving DecidableEq, Repr

/-- One stage link: its part of the link interface (R18, R19) and its section of the output scheduler
(R65). -/
structure Link where
  up : Bool := false
  /-- R12: the silence timer -/
  silence : Option Nat := none
  fifo : List Received := []
  role : Role := .unused
  rights : Rights := .full
  farEnd : Option (Role × PartState) := none
  ctr : LinkCounters := {}
  /-- R17: the presence timer -/
  presence : Nat := 0
  onLine : Option OnLine := none
  /-- R16: the instant from which the transmitter is free -/
  freeAt : Nat := 0
  realTime : List Frame := []
  silenceFlag : Bool := false
  /-- R69: pairs by pairAddr, with their release velocities -/
  release : Sparse := []
  queue : List Waiting := []
  deferral : List Waiting := []
  window : Window := {}
  bins : Vector Bin 8 := Vector.replicate 8 {}
  /-- R86: the LATE alert timer -/
  late : Option Nat := none
  out : OutCounters := {}
deriving DecidableEq, Repr

/-! ### The event router and the note tracker (02, 03) -/

/-- R40: the router's counters. -/
structure RouterCounters where
  fanOut : Nat := 0
  transposeRange : Nat := 0
  unavailable : Nat := 0
  withoutCopies : Nat := 0
deriving DecidableEq, Repr

/-- R42: the states of a copy. -/
inductive CopyState where
  | pending | sent
deriving DecidableEq, Repr

/-- R42: a copy record. `id` is its identity, which the output scheduler keeps with the waiting NOTE_ON. -/
structure Copy where
  id : Nat
  link : Nat
  ch : Nat
  key : Nat
  vel : Nat
  holdFollow : Bool
  passPressure : Bool
  state : CopyState
deriving DecidableEq, Repr

/-- R41: the states of an entry. -/
inductive EntryState where
  | keyed | sustained
deriving DecidableEq, Repr

/-- R41: an entry of the held-note table. -/
structure Entry where
  src : Nat
  ch : Nat
  key : Nat
  state : EntryState
  copies : List Copy
deriving DecidableEq, Repr

/-- R62: the note tracker's counters. -/
structure TrackerCounters where
  reStrikes : Nat := 0
  steals : Nat := 0
  refusedNotes : Nat := 0
  suppressed : Nat := 0
  refusedCopies : Nat := 0
  unmatchedReleases : Nat := 0
  unmatchedPressure : Nat := 0
deriving DecidableEq, Repr

/-- The note tracker (R41, R43, R44, R50): the table, oldest entry first; the destination count map by
destAddr; the hold flags by holdAddr, 1 for set; the TABLE_FULL timer. `nextCopy` is the MODEL's own: the
identity the next copy takes. -/
structure Tracker where
  table : List Entry := []
  counts : Sparse := []
  holds : Sparse := []
  tableFull : Option Nat := none
  ctr : TrackerCounters := {}
  nextCopy : Nat := 0
deriving DecidableEq, Repr

/-! ### The switch controller (05, 06) -/

/-- R105: the states of the switch controller. -/
inductive SwitchState where
  | idle | armed | recalling
deriving DecidableEq, Repr

/-- R119: the causes of a commit. -/
inductive Cause where
  | command | footswitch | cue | fallback | startUp
deriving DecidableEq, Repr

/-- R105: a song index and a scene index. -/
structure Target where
  song : Nat
  scene : Nat
deriving DecidableEq, Repr

/-- R105: an armed or a queued request. `count` is the fallback count, 0 while queued. -/
structure Request where
  target : Target
  gate : Gate
  fallback : Nat
  count : Nat
  cause : Cause
deriving DecidableEq, Repr

/-- R100: the identity of the commit that filled the live copy. -/
structure Identity where
  song : Nat
  scene : Nat
  record : Nat
  gen : Nat
deriving DecidableEq, Repr

/-- R100: the live copy; the default click settings and no zones while it is empty. -/
structure Live where
  ident : Option Identity := none
  name : List Byte := List.replicate 16 0
  beatsPerBar : Nat := 4
  click : Click := Record.click Record.defaultScene
  countIn : Nat := 0
  zones : List Zone := []
  recalls : List Recall := []
  overlays : List Overlay := []
deriving DecidableEq, Repr

/-- R125: the switch controller's counters. -/
structure SwitchCounters where
  taken : Nat := 0
  refused : Nat := 0
  superseded : Nat := 0
  cancelled : Nat := 0
  cuesSkipped : Nat := 0
  commits : Nat := 0
  fallbackCommits : Nat := 0
deriving DecidableEq, Repr

/-- R105: the switch controller. `recalling` holds the recalling target and the recalling cause. -/
structure Switch where
  state : SwitchState := .idle
  position : Target := ⟨0, 0⟩
  armed : Option Request := none
  queued : Option Request := none
  recalling : Option (Target × Cause) := none
  waitSet : List Nat := []
  live : Live := {}
  differs : Bool := false
  ctr : SwitchCounters := {}
deriving DecidableEq, Repr

/-! ### The beat engine and the follow unit (07, 08, 09) -/

/-- R155: the transport. -/
inductive Transport where
  | stopped | countIn | running
deriving DecidableEq, Repr

/-- R134: an active ramp. -/
structure Ramp where
  start : Nat
  target : Nat
  steps : Nat
  step : Nat
deriving DecidableEq, Repr

/-- R140: the beat engine's counters. -/
structure BeatCounters where
  rampsBegun : Nat := 0
  rampsEnded : Nat := 0
  tapRestarts : Nat := 0
  tapsRefused : Nat := 0
  tempoRefused : Nat := 0
deriving DecidableEq, Repr

/-- The beat engine (R127, R129, R130, R132, R134, R136, R155). `owed` is the MODEL's own: it counts the pulse advances that the
accumulator's sum has reached and that have not yet been taken as events (log entry 1). -/
structure Beat where
  tempo : Nat := 12000
  applied : Nat := 128849
  pulse : Nat := 0
  fraction : Nat := 0
  owed : Nat := 0
  index : Nat := 0
  bar : Int := 1
  current : Nat := 4
  pending : Nat := 4
  transport : Transport := .stopped
  startPending : Bool := false
  ramp : Option Ramp := none
  lastTap : Option Nat := none
  taps : List Nat := []
  inForce : Click := Record.click Record.defaultScene
  handed : Click := Record.click Record.defaultScene
  countIn : Nat := 0
  segueMark : Bool := false
  ctr : BeatCounters := {}
deriving DecidableEq, Repr

/-- R142: the states of the follow unit. -/
inductive FollowState where
  | off | seek | locking | locked | holdover
deriving DecidableEq, Repr

/-- R154: the follow unit's counters. -/
structure FollowCounters where
  beats : Nat := 0
  outliers : Nat := 0
  locks : Nat := 0
  lockLosses : Nat := 0
  holdovers : Nat := 0
deriving DecidableEq, Repr

/-- R142: the follow unit. `limit` is the silence timer's limit while it runs, from the last arrival. -/
structure Follow where
  state : FollowState := .off
  lastArrival : Option Nat := none
  lastInterval : Option Nat := none
  lastEstimate : Option Nat := none
  good : Nat := 0
  outlierRun : Nat := 0
  limit : Option Nat := none
  correction : Option Int := none
  ctr : FollowCounters := {}
deriving DecidableEq, Repr

/-! ### The pedal interface (10) -/

/-- R167: a pedal. `history` holds up to 8 samples, oldest first; `phase` counts the samples since the
evaluation before (or since the pedal was set afresh), and `next` is the instant of the next sample; `absent`
is the presence. -/
structure Pedal where
  history : List Nat := []
  phase : Nat := 0
  next : Nat := 0
  last : Option Nat := none
  absent : Bool := false
  highRun : Nat := 0
  lowRun : Nat := 0
deriving DecidableEq, Repr

/-- R172, R174, R175: a footswitch. `pressed` is the accepted state, PRESSED or RELEASED; `level` is the level
of the latest sample, none until the first sample since READY has been taken (R172: that one sets the accepted
state directly; RELEASED stands until then, log entry 27); `timer` is the PANIC hold timer. -/
structure Foot where
  pressed : Bool := false
  run : Nat := 0
  level : Option Bool := none
  timer : Option Nat := none
deriving DecidableEq, Repr

/-- R171: an event of the event list, from a pedal or from a footswitch. -/
inductive PedalEvent where
  | control (pedal ch num val : Nat)
  | hold (foot src ch state : Nat)
deriving DecidableEq, Repr

/-! ### The management unit (11) -/

/-- R182: an OPEN edit slot. -/
structure Slot where
  owner : Nat
  table : Table
  index : Nat
  image : Record
  gen : Nat
  expires : Nat
deriving DecidableEq, Repr

/-- R178: a recorded fault. -/
structure FaultRecord where
  link : Nat
  code : Byte
  table : Byte
  index : Byte
deriving DecidableEq, Repr

/-- R191: the result of a load or a save. -/
inductive ImageResult where
  | none | ok | failed
deriving DecidableEq, Repr

/-- R191: the reason of a failed load or save. -/
inductive ImageReason where
  | none | noFlash | badSum | badRecord
deriving DecidableEq, Repr

/-- R189: a save in progress: the image being written, and the instant at which it has failed. -/
structure Save where
  image : List Byte
  expires : Nat
deriving DecidableEq, Repr

/-- R181: the management counters. -/
structure MgmtCounters where
  answered : Nat := 0
  denied : Nat := 0
  noticesDropped : Nat := 0
deriving DecidableEq, Repr

/-- The management unit (R178, R181, R182, R188, R189). The result of the last load is NONE from power-on until the
part is READY (log entry 27). -/
structure Mgmt where
  slots : Vector (Option Slot) 4 := Vector.replicate 4 none
  fault : Option FaultRecord := none
  later : Nat := 0
  save : Option Save := none
  lastLoad : ImageResult := .none
  lastSave : ImageResult := .none
  ctr : MgmtCounters := {}
deriving DecidableEq, Repr

/-! ### The whole part -/

/-- The whole part. `pending` (the queue of waiting commands) and `drawn` (free values drawn so far) are the
MODEL's own. -/
structure State where
  pending : List Instr
  drawn : Nat
  /-- 00_scope.md, Time: the 1 µs timebase -/
  now : Nat
  part : PartState
  /-- R188: the instant at which the image read has failed, while LOADING -/
  loadBy : Nat
  links : Vector Link 12
  /-- R7: the arbiter pointer -/
  pointer : Nat
  store : Store
  /-- R34: the engaged overlay list -/
  engaged : List Nat
  router : RouterCounters
  tracker : Tracker
  /-- R87: whether histogram counting is on -/
  counting : Bool
  switch : Switch
  beat : Beat
  follow : Follow
  pedals : Vector Pedal 4
  foots : Vector Foot 4
  /-- R171: the event list -/
  events : List PedalEvent
  mgmt : Mgmt
deriving DecidableEq, Repr

/-- R19: a link right after power-on: DOWN, role UNUSED, rights FULL, every counter 0, and then the PRESENCE
frame that it sends at once (R16: 5 bytes, 50 µs on the line, 20 µs of gap; R17: the presence timer restarts
and both sent counters rise). -/
def Link.reset : Link :=
  { onLine := some { frame := .presence .unused .loading, ends := 50, fromRecall := false }, freeAt := 70,
    presence := Config.presenceTime, ctr := { sent := 1, presenceSent := 1 } }

/-- The part right after power-on or the release of the reset input: LOADING (R188), and every block at the
power-on values its chapter gives (R19, R34, R40, R41, R44, R65, R105, R141, R142, R155, R182). The store
is not loaded yet; until it is, the model holds the defaults in it (log entry 10). What R167 and R172 give only
at READY (presence PRESENT, an empty event list, stopped hold timers) stands from here on, with the footswitches
RELEASED (log entry 27). -/
def State.reset : State :=
  { pending := [], drawn := 0, now := 0, part := .loading, loadBy := Config.loadTime,
    links := Vector.replicate 12 Link.reset, pointer := 12, store := Store.defaults, engaged := [], router := {},
    tracker := {}, counting := false, switch := {}, beat := {}, follow := {}, pedals := Vector.replicate 4 {},
    foots := Vector.replicate 4 {}, events := [], mgmt := {} }

end Sys2Proof.Machine
end

