-- ==== Sys2Proof/Machine/Ops.lean ====
section
/-! DEFINITION. The operations every block shares: reading and writing one link, the passing of time, free
values, counters and notices. -/
namespace Sys2Proof.Machine

/-! ### One link -/

/-- Link `l`. -/
def State.link (s : State) (l : Nat) : Link := bankGet s.links l {}

/-- The state with link `l` replaced. -/
def State.setLink (s : State) (l : Nat) (k : Link) : State := { s with links := bankSet s.links l k }

/-- The state with link `l` changed by `f`. -/
def State.onLink (s : State) (l : Nat) (f : Link → Link) : State := s.setLink l (f (s.link l))

/-- Every link changed by `f`, which is told the link's number. -/
def State.onLinks (s : State) (f : Nat → Link → Link) : State := { s with links := bankMapIdx f s.links }

/-- The numbers of the links, in ascending order. -/
def linkNumbers : List Nat := List.range 12

/-- An operation done for each link in ascending order. -/
def State.eachLink (s : State) (f : Nat → State → State) : State := linkNumbers.foldl (fun s l => f l s) s

/-- R27: a destination link is available when it is UP with role MODULE. -/
def Link.available (k : Link) : Bool := k.up && k.role == .module

/-- R67: a link that takes real-time frames is UP with role MODULE or CLICK. -/
def Link.takesRealTime (k : Link) : Bool := k.up && (k.role == .module || k.role == .click)

/-! ### Time -/

/-- `n` µs pass. While the transport is COUNT_IN or RUNNING the applied increment is added once for each
(R130); advances that the sum reaches are owed until they are taken as PULSE or BEAT_BOUNDARY events. -/
def State.elapse (s : State) (n : Nat) : State :=
  if s.beat.transport = .stopped then { s with now := s.now + n }
  else
    let sum := s.beat.fraction + n * s.beat.applied
    { s with
      now := s.now + n
      beat := { s.beat with
        fraction := sum % Config.pulseUnits
        owed := s.beat.owed + sum / Config.pulseUnits } }

/-- Time passes up to instant `t`; nothing passes when `t` is not ahead. -/
def State.advanceTo (s : State) (t : Nat) : State := s.elapse (t - s.now)

/-! ### Pedals -/

/-- R167: a pedal set afresh at an instant. Its first sample comes 1 ms later (log entry 18). -/
def Pedal.fresh (now : Nat) : Pedal := { next := now + Config.sampleTime }

/-! ### Free values -/

/-- The next free value has been drawn. -/
def State.draw (s : State) : State := { s with drawn := s.drawn + 1 }

/-! ### Counters (R1, R18, R40, R62, R88, R125, R140, R154, R181) -/

/-- A change of the counters of link `l` (R18). -/
def State.count (s : State) (l : Nat) (f : LinkCounters → LinkCounters) : State :=
  s.onLink l fun k => { k with ctr := f k.ctr }

/-- A change of the output counters of link `l` (R88). -/
def State.countOut (s : State) (l : Nat) (f : OutCounters → OutCounters) : State :=
  s.onLink l fun k => { k with out := f k.out }

/-- A change of the router's counters (R40). -/
def State.countRouter (s : State) (f : RouterCounters → RouterCounters) : State := { s with router := f s.router }

/-- A change of the note tracker's counters (R62). -/
def State.countTracker (s : State) (f : TrackerCounters → TrackerCounters) : State :=
  { s with tracker := { s.tracker with ctr := f s.tracker.ctr } }

/-- A change of the switch controller's counters (R125). -/
def State.countSwitch (s : State) (f : SwitchCounters → SwitchCounters) : State :=
  { s with switch := { s.switch with ctr := f s.switch.ctr } }

/-- A change of the beat engine's counters (R140). -/
def State.countBeat (s : State) (f : BeatCounters → BeatCounters) : State :=
  { s with beat := { s.beat with ctr := f s.beat.ctr } }

/-- A change of the follow unit's counters (R154). -/
def State.countFollow (s : State) (f : FollowCounters → FollowCounters) : State :=
  { s with follow := { s.follow with ctr := f s.follow.ctr } }

/-- A change of the management counters (R181). -/
def State.countMgmt (s : State) (f : MgmtCounters → MgmtCounters) : State :=
  { s with mgmt := { s.mgmt with ctr := f s.mgmt.ctr } }

/-! ### Replies and notices -/

/-- R71, R73: a reply or notice joins the tail of the link's output queue; it is dropped and counted when
the link is not UP or the queue is full. -/
def State.placeReply (s : State) (l : Nat) (f : Frame) : State :=
  if (s.link l).up && decide ((s.link l).queue.length < Config.queueSize) then
    s.onLink l fun k => { k with queue := k.queue ++ [{ frame := f, entry := s.now, copy := none, fromRecall := false }] }
  else s.countOut l fun c => { c with droppedReplies := bump c.droppedReplies 1 }

/-- The notices, in the order of R186. -/
inductive Notice where
  | linkUp (link : Nat)
  | linkLost (link : Nat)
  | switchDone (ident : Identity) (cause : Cause)
  | lockChange (state : FollowState) (tempo : Nat)
  | late (link bin : Nat)
  | fault (f : FaultRecord)
  | tableFull (src ch key : Nat)
  | pedalAbsent (pedal : Nat) (absent : Bool)
  | image (save : Bool) (result : ImageResult) (reason : ImageReason)
deriving DecidableEq, Repr

/-- R191: the code of a cause. -/
def Cause.code : Cause → Nat
  | .command => 0 | .footswitch => 1 | .cue => 2 | .fallback => 3 | .startUp => 4

/-- R191: the code of a follow state. -/
def FollowState.code : FollowState → Nat
  | .off => 0 | .seek => 1 | .locking => 2 | .locked => 3 | .holdover => 4

/-- R191: the code of an image result. -/
def ImageResult.code : ImageResult → Nat
  | .none => 0 | .ok => 1 | .failed => 2

/-- R191: the code of an image reason. -/
def ImageReason.code : ImageReason → Nat
  | .none => 0 | .noFlash => 1 | .badSum => 2 | .badRecord => 3

/-- R191: the NOTICE frame of a notice. -/
def Notice.frame : Notice → Frame
  | .linkUp l => .notice 1 [byte l]
  | .linkLost l => .notice 2 [byte l]
  | .switchDone i c => .notice 3 ([byte i.song, byte i.scene, byte i.record] ++ be16 i.gen ++ [byte (Cause.code c)])
  | .lockChange st t => .notice 4 (byte (FollowState.code st) :: be16 t)
  | .late l bin => .notice 5 [byte l, byte bin]
  | .fault f => .notice 6 [byte f.link, f.code, f.table, f.index]
  | .tableFull src ch key => .notice 7 [byte src, byte ch, byte key]
  | .pedalAbsent p absent => .notice 8 [byte p, byte (if absent then 1 else 0)]
  | .image save result reason =>
    .notice 9 [byte (if save then 1 else 0), byte (ImageResult.code result), byte (ImageReason.code reason)]

/-- R186: a notice goes to the report link's output queue, as the system record names it at this instant; it
is dropped and counted while LOADING and when that link is not UP. -/
def State.raise (s : State) (n : Notice) : State :=
  if s.part == .loading || !(s.link s.store.reportLink).up then
    s.countMgmt fun c => { c with noticesDropped := bump c.noticesDropped 1 }
  else s.placeReply s.store.reportLink n.frame

/-! ### Delivery (R6, R7) -/

/-- R6, R7: position `pos` is granted: the frame leaves the receive FIFO whose head it is, and the pointer
moves to the position. -/
def State.grant (s : State) (pos : Nat) (f : Frame) : State :=
  let s := { s with pointer := pos }
  match (s.link pos).fifo with
  | r :: rest => if r.frame = f then s.onLink pos fun k => { k with fifo := rest } else s
  | [] => s

/-- R7, R171: position 12 is granted: the event leaves the event list whose head it is. -/
def State.grantPedal (s : State) (same : PedalEvent → Bool) : State :=
  let s := { s with pointer := 12 }
  match s.events with
  | e :: rest => if same e then { s with events := rest } else s
  | [] => s

/-- R8, R10: a frame that no block takes is discarded and counted as not routed. -/
def State.notRouted (s : State) (l : Nat) : State :=
  s.count l fun c => { c with notRouted := bump c.notRouted 1 }

/-- R8: a performance frame from link `l` goes to the event router. -/
def State.routes (s : State) (l : Nat) : Bool := s.part == .ready && (s.link l).role == .source

/-- R10: a BEAT frame from link `l` goes to the follow unit. -/
def State.follows (s : State) (l : Nat) : Bool := s.routes l && s.store.followLink == l

end Sys2Proof.Machine
end

