-- ==== Sys2Proof/Machine/Output.lean ====
section
/-! DEFINITION. The output scheduler's operations (R65 to R88): placing, coalescing and withdrawing frames,
the choice of the next frame, recall windows, and the emptying of a section. What a window's change reports
to the switch controller stands in Machine/Recall.lean. -/
namespace Sys2Proof.Machine

/-! ### Placing frames -/

/-- R71: which queue a link's new notes and controller frames enter. -/
def Link.deferring (k : Link) : Bool := k.window.state != .closed

/-- R71, R73: a NOTE_ON offered for this link would be placed. -/
def Link.takesNote (k : Link) : Bool :=
  k.available && (if k.deferring then decide (k.deferral.length < Config.deferralSize)
    else decide (k.queue.length < Config.queueSize))

/-- R71: the NOTE_ON of copy `id` joins the tail of the queue that the window's state chooses. -/
def State.placeNote (s : State) (l ch key vel id : Nat) : State :=
  let w : Waiting := { frame := .noteOn ch key vel, entry := s.now, copy := some id, fromRecall := false }
  s.onLink l fun k =>
    if k.deferring then { k with deferral := k.deferral ++ [w] } else { k with queue := k.queue ++ [w] }

/-- R71, R73: a NOTE_ON is refused and counted for the link. -/
def State.refuseNote (s : State) (l : Nat) : State :=
  s.countOut l fun c => { c with refusedNotes := bump c.refusedNotes 1 }

/-- R72: two frames are of one kind and channel and, for CONTROL, one number, or, for PRESSURE, one key. -/
def Frame.sameStream : Frame → Frame → Bool
  | .control c n _, .control c' n' _ => c == c' && n == n'
  | .bend c _, .bend c' _ => c == c'
  | .pressure c k _, .pressure c' k' _ => c == c' && k == k'
  | _, _ => false

/-- R72: a NOTE_ON for the channel and key of a key-addressed PRESSURE. -/
def Frame.strikes (pressure note : Frame) : Bool :=
  match pressure, note with
  | .pressure c k _, .noteOn c' k' _ => k != 255 && c == c' && k == k'
  | _, _ => false

/-- R72: the queue with `f` absorbed into a waiting frame that matches it, the newest one; none when no
frame may take it. A recall frame takes none, and a PRESSURE none behind which its key's NOTE_ON waits. -/
def coalesce (f : Frame) : List Waiting → Option (List Waiting)
  | [] => none
  | w :: r =>
    match coalesce f r with
    | some r' => some (w :: r')
    | none =>
      if !w.fromRecall && Frame.sameStream w.frame f && !(r.any fun x => Frame.strikes f x.frame) then
        some ({ w with frame := f } :: r)
      else none

/-- R71 to R73: a CONTROL, BEND or PRESSURE frame is offered for link `l`: absorbed, placed, or dropped and
counted. -/
def State.placeControl (s : State) (l : Nat) (f : Frame) : State :=
  let k := s.link l
  let w : Waiting := { frame := f, entry := s.now, copy := none, fromRecall := false }
  if !k.available then s.countOut l fun c => { c with droppedCtl := bump c.droppedCtl 1 }
  else if k.deferring then
    match coalesce f k.deferral with
    | some q => s.onLink l fun k => { k with deferral := q, out := { k.out with coalesced := bump k.out.coalesced 1 } }
    | none =>
      if k.deferral.length < Config.deferralSize then s.onLink l fun k => { k with deferral := k.deferral ++ [w] }
      else s.countOut l fun c => { c with droppedCtl := bump c.droppedCtl 1 }
  else
    match coalesce f k.queue with
    | some q => s.onLink l fun k => { k with queue := q, out := { k.out with coalesced := bump k.out.coalesced 1 } }
    | none =>
      if k.queue.length < Config.queueSize then s.onLink l fun k => { k with queue := k.queue ++ [w] }
      else s.countOut l fun c => { c with droppedCtl := bump c.droppedCtl 1 }

/-- The waiting NOTE_ON of copy `id`. -/
def Waiting.isCopy (id : Nat) (w : Waiting) : Bool := w.copy == some id

/-- R74: the NOTE_ON of copy `id` is removed from the queue in which it waits, and the withdrawal counted. -/
def State.withdraw (s : State) (l id : Nat) : State :=
  s.onLink l fun k =>
    if k.queue.any (Waiting.isCopy id) || k.deferral.any (Waiting.isCopy id) then
      { k with
        queue := k.queue.filter fun w => !Waiting.isCopy id w
        deferral := k.deferral.filter fun w => !Waiting.isCopy id w
        out := { k.out with withdrawals := bump k.out.withdrawals 1 } }
    else k

/-- R69, R82: (channel, key) is posted to the release set of `l`, where a pair already in it keeps its release
velocity. A pair offered for a link that is not an UP MODULE link is disposed of. -/
def State.post (s : State) (l ch key vel : Nat) : State :=
  s.onLink l fun k => if k.available then { k with release := k.release.join (pairAddr ch key) vel } else k

/-- R67: a frame of the beat engine joins the real-time list of `l`, or is an overrun, or is discarded. -/
def State.placeRealTime (s : State) (l : Nat) (f : Frame) : State :=
  s.onLink l fun k =>
    if !k.takesRealTime then k
    else if k.realTime.length < Config.realTimeSize then { k with realTime := k.realTime ++ [f] }
    else { k with out := { k.out with overruns := bump k.out.overruns 1 } }

/-! ### The transmitter -/

/-- R16, R17: a frame starts on the line of `l`: it holds the line 10 µs a byte and the transmitter 20 µs
more, the presence timer restarts, and the frame is counted as sent. -/
def State.startFrame (s : State) (l : Nat) (f : Frame) (fromRecall : Bool) : State :=
  s.onLink l fun k =>
    { k with
      onLine := some { frame := f, ends := s.now + 10 * Frame.size f, fromRecall := fromRecall }
      freeAt := s.now + 10 * Frame.size f + Config.gap
      presence := s.now + Config.presenceTime
      ctr := { k.ctr with sent := bump k.ctr.sent 1 } }

/-- R85: the bin that a wait selects. -/
def waitBin (w : Nat) : Nat :=
  if w < 100 then 0 else if w < 200 then 1 else if w < 400 then 2 else if w < 800 then 3
  else if w < 1600 then 4 else if w < 3200 then 5 else if w < 6400 then 6 else 7

/-- R85: one frame counted in a bin. -/
def Bin.add (b : Bin) : Bin := if b.count < Config.binMax then { b with count := b.count + 1 } else { b with saturated := true }

/-- R85, R86: the wait of a frame taken from the output queue of `l` is counted, and the first late one since
the alert timer stopped raises LATE. -/
def State.countWait (s : State) (l wait : Nat) : State :=
  if s.counting && s.store.histMask l then
    let b := waitBin wait
    let s := s.onLink l fun k => { k with bins := bankSet k.bins b (Bin.add (bankGet k.bins b {})) }
    if s.store.alertMask b && (s.link l).late.isNone then
      (s.onLink l fun k => { k with late := some (s.now + Config.alertTime) }).raise (.late l b)
    else s
  else s

/-- R47: the copy `id` is SENT. -/
def Copy.markSent (id : Nat) (c : Copy) : Copy := if c.id = id then { c with state := .sent } else c

/-- R47, R75: the start of a NOTE_ON is reported to the note tracker. -/
def State.markSent (s : State) (id : Nat) : State :=
  { s with tracker := { s.tracker with
      table := s.tracker.table.map fun e => { e with copies := e.copies.map (Copy.markSent id) } } }

/-- R66: the transmitter has something to take. -/
def Link.hasNext (k : Link) : Bool :=
  !k.realTime.isEmpty || k.silenceFlag || !k.release.isEmpty || !k.queue.isEmpty

/-- R66, R68, R69, R75: the transmitter of `l` takes the head of the real-time list, else the SILENCE frame,
else the smallest pair of the release set, else the head of the output queue. It chooses after the event that
placed the frames is whole, so two frames that ONE event brings to an idle transmitter are judged by this order
too, where R66 lets either be taken first (log entry 36). -/
def State.transmit (s : State) (l : Nat) : State :=
  let k := s.link l
  match k.realTime with
  | f :: r => (s.onLink l fun k => { k with realTime := r }).startFrame l f false
  | [] =>
    if k.silenceFlag then
      (s.onLink l fun k => { k with silenceFlag := false }).startFrame l (.silence 255) false
    else
      match k.release with
      | (a, v) :: r =>
        (s.onLink l fun k => { k with release := r }).startFrame l (.noteOff (a / 128) (a % 128) v) false
      | [] =>
        match k.queue with
        | w :: r =>
          let s := (s.onLink l fun k => { k with queue := r }).startFrame l w.frame w.fromRecall
          let s := match w.copy with
            | some id => s.markSent id
            | none => s
          s.countWait l (s.now - w.entry)
        | [] => s

/-! ### Recall windows -/

/-- R76: the recall frames that the live copy holds for `l`, in record order. -/
def State.recallsFor (s : State) (l : Nat) : List Frame :=
  (s.switch.live.recalls.filter fun r => r.link == l).map (·.frame)

/-- R77: the window's next frame can be fed. -/
def Link.feeds (k : Link) : Bool :=
  k.window.state == .sending && !k.window.fed && !k.window.todo.isEmpty
    && decide (k.queue.length < Config.queueSize)

/-- R77: in SENDING, with no fed frame outstanding, the next frame of the recall list joins the tail of the
output queue if it has a free place. -/
def State.feed (s : State) (l : Nat) : State :=
  s.onLink l fun k =>
    if k.feeds then
      match k.window.todo with
      | f :: r =>
        { k with
          queue := k.queue ++ [{ frame := f, entry := s.now, copy := none, fromRecall := true }]
          window := { k.window with todo := r, fed := true } }
      | [] => k
    else k

/-- R76, R80: a window opens on `l`, or restarts, with the live copy's recall frames for the link. A fed
frame of the old list that is still on its way is waited for. -/
def State.openWindow (s : State) (l : Nat) : State :=
  let todo := s.recallsFor l
  (s.onLink l fun k =>
    if k.deferring then
      { k with window := { k.window with state := .sending, todo := todo }
               out := { k.out with restarts := bump k.out.restarts 1 } }
    else
      { k with window := { state := .sending, todo := todo, fed := false, since := k.window.since }
               out := { k.out with opened := bump k.out.opened 1 } }).feed l

/-- R78: the window of `l` enters SETTLING. -/
def State.settle (s : State) (l : Nat) : State :=
  s.onLink l fun k => { k with window := { k.window with state := .settling, since := s.now } }

/-- R78: the settle time of `l`, as the link record stands, has passed. -/
def State.settled (s : State) (l : Nat) : Bool :=
  (s.link l).window.state == .settling && decide ((s.link l).window.since + s.store.settleTime l ≤ s.now)

/-- R78: the window of `l` enters DRAINING. -/
def State.beginDrain (s : State) (l : Nat) : State :=
  s.onLink l fun k => { k with window := { k.window with state := .draining } }

/-- R79: a deferred frame as it joins the output queue: its entry instant is that of the move. -/
def Waiting.moved (now : Nat) (w : Waiting) : Waiting := { w with entry := now }

/-- R79: in DRAINING, deferred frames move to the tail of the output queue while it has room; when none is
left the window is CLOSED. DESIGN CHOICE (log entry 50): a withdrawal that takes the last deferred frame leaves the
window DRAINING until this is done, at the same instant. -/
def State.drain (s : State) (l : Nat) : State :=
  s.onLink l fun k =>
    if k.window.state == .draining then
      let n := Config.queueSize - k.queue.length
      let left := k.deferral.drop n
      { k with
        queue := k.queue ++ (k.deferral.take n).map (Waiting.moved s.now)
        deferral := left
        window := if left.isEmpty then {} else k.window }
    else k

/-- R80: a commit whose live copy holds no recall entry for `l`: a window in SENDING drops the frames it has
not fed and, with none on its way, enters SETTLING. The report it may then make concerns a link outside the
wait set, so it changes nothing (R121) and is left out (log entry 15). -/
def State.dropRecall (s : State) (l : Nat) : State :=
  if (s.link l).window.state = .sending then
    let s := s.onLink l fun k => { k with window := { k.window with todo := [] } }
    if (s.link l).window.fed then s
    else
      let s := s.settle l
      if s.settled l then (s.beginDrain l).drain l else s
  else s

/-! ### Emptying a section -/

/-- The frame on the line is no longer the window's fed frame: its window has closed. -/
def Link.unlink (k : Link) : Link := { k with onLine := k.onLine.map fun o => { o with fromRecall := false } }

/-- R13 (MODULE), R82, R83: real-time list, release set and both queues emptied, SILENCE flag clear, window
CLOSED with an empty recall list. -/
def Link.clearSection (k : Link) : Link :=
  { k.unlink with realTime := [], release := [], queue := [], deferral := [], silenceFlag := false, window := {} }

/-- R13, R83: the work on a section when its link leaves a role. -/
def Link.leaveRole (k : Link) : Link :=
  match k.role with
  | .module => k.clearSection
  | .click => { k.unlink with realTime := [], queue := [], deferral := [], window := {} }
  | .unused => { k with queue := [] }
  | .source => k

/-- R84: RESTART on a section: the real-time list and deferral queue emptied, performance and recall frames
removed from the output queue, the window closed without a report. -/
def Link.restartSection (k : Link) : Link :=
  { k.unlink with
    realTime := [], deferral := [], window := {},
    queue := k.queue.filter fun w => !Frame.performance w.frame }

/-- R81: the closing of this window gives a report. -/
def Window.awaited (w : Window) : Bool := w.state == .sending || w.state == .settling

end Sys2Proof.Machine
end

