-- ==== Sys2Proof/Machine/Tempo.lean ====
section
/-! DEFINITION. The beat engine's operations that a commit needs: tempo arithmetic (R127 to R129), ramps (R133
to R135), the stop (R159), what a commit hands over (R156, R165), and the frames of pulses and boundaries
(R161, R162). -/
namespace Sys2Proof.Machine

/-- R128: INC(T) = T × 268,435,456 / 25,000,000, rounded. -/
def inc (t : Nat) : Nat := roundDiv (t * 268435456) 25000000

/-- R129: the applied increment under a phase correction, rounded. -/
def corrected (t : Nat) (c : Int) : Nat := roundDiv (inc t * (240 + c).toNat) 240

/-- R127: a tempo limited to 3000 to 30000. -/
def limitTempo (t : Nat) : Nat := limit Config.minTempo Config.maxTempo t

/-- R127: T is written; the applied increment becomes INC(T), and any phase correction is dropped. -/
def State.writeTempo (s : State) (t : Nat) : State :=
  { s with
    beat := { s.beat with tempo := t, applied := inc t }
    follow := { s.follow with correction := none } }

/-- R129: with no correction set, the applied increment is INC(T). -/
def State.dropCorrection (s : State) : State :=
  { s with
    beat := { s.beat with applied := inc s.beat.tempo }
    follow := { s.follow with correction := none } }

/-- R135: an active ramp is no longer active, counted as ended early. -/
def State.endRamp (s : State) : State :=
  match s.beat.ramp with
  | some _ =>
    { s with beat := { s.beat with
        ramp := none
        ctr := { s.beat.ctr with rampsEnded := bump s.beat.ctr.rampsEnded 1 } } }
  | none => s

/-- R134: T after step `k` of a ramp: T_s + (T_t − T_s) × k / S, truncated toward zero. -/
def Ramp.tempoAt (r : Ramp) (k : Nat) : Nat :=
  ((r.start : Int) + Int.tdiv (((r.target : Int) - r.start) * k) r.steps).toNat

/-- R131 step 2, R134: an active ramp takes its next step. -/
def State.stepRamp (s : State) : State :=
  match s.beat.ramp with
  | some r =>
    let k := r.step + 1
    let s := s.writeTempo (r.tempoAt k)
    { s with beat := { s.beat with ramp := if k < r.steps then some { r with step := k } else none } }
  | none => s

/-- R135: the transport entering STOPPED completes an active ramp with T written as its target. -/
def State.completeRamp (s : State) : State :=
  match s.beat.ramp with
  | some r => s.endRamp.writeTempo r.target
  | none => s

/-- The transport is COUNT_IN or RUNNING. -/
def State.moving (s : State) : Bool := s.beat.transport != .stopped

/-- The transport is RUNNING. -/
def State.running (s : State) : Bool := s.beat.transport == .running

/-- R159 steps 1 to 3, and STOP while START is pending: the transport becomes STOPPED, a ramp completes, the
bar number becomes 1 and the beat index 0, the segue mark clears. The report of step 4 is made by the
caller. A phase correction in force stays, with its increment, until the next frame or write of T (R129, R152;
log entry 39). An advance that is owed, one that stands at the instant of the stop, is dropped: the
pulse stays, and the fraction as the sum has left it (log entry 1). -/
def State.stopTransport (s : State) : State :=
  if s.moving then
    let s := { s with beat := { s.beat with transport := .stopped, owed := 0 } }
    let s := s.completeRamp
    { s with beat := { s.beat with bar := 1, index := 0, segueMark := false } }
  else { s with beat := { s.beat with startPending := false } }

/-- R133: a scene's tempo at a commit. -/
def State.applySceneTempo (s : State) (tempo rampBars beatsPerBar : Nat) : State :=
  if tempo = 0 then s
  else if s.follow.state != .off then s
  else if rampBars = 0 || !s.moving then s.endRamp.writeTempo tempo
  else
    let s := s.endRamp
    { s with beat := { s.beat with
        ramp := some { start := s.beat.tempo, target := tempo, steps := rampBars * beatsPerBar, step := 0 }
        ctr := { s.beat.ctr with rampsBegun := bump s.beat.ctr.rampsBegun 1 } } }

/-- R156: the click settings, beats per bar and count-in bars that a commit hands over. -/
def State.handSettings (s : State) (r : Record) : State :=
  { s with beat := { s.beat with pending := u8At r 19, handed := Record.click r, countIn := u8At r 22 } }

/-- R165: a commit entered another song with SEGUE set. `atBar` says that it was made within step 3 of a bar
boundary. -/
def State.enterSegue (s : State) (atBar : Bool) : State :=
  if s.running then
    if atBar then { s with beat := { s.beat with bar := 1 } }
    else { s with beat := { s.beat with segueMark := true } }
  else s

/-! ### Frames of pulses and boundaries -/

/-- R161: link `l` receives a CLOCK frame for pulse `q`: its divisor is above 0 and divides the pulse. -/
def State.clocked (s : State) (l q : Nat) : Bool :=
  ((s.link l).role == .module || (s.link l).role == .click) && s.store.divisor l != 0 && q % s.store.divisor l == 0

/-- R161, R162: a real-time frame posted to `l` where the condition holds. -/
def State.postIf (s : State) (l : Nat) (c : Bool) (f : Frame) : State := if c then s.placeRealTime l f else s

/-- R161: the subdivision click that pulse `q` makes: level, beat index and subdivision index. -/
def State.subClick (s : State) (q : Nat) : Option Frame :=
  let c := s.beat.inForce
  if s.running && 1 < c.subdivision && 0 < c.level && q % (240 / c.subdivision) == 0 then
    some (.click c.level s.beat.index (q / (240 / c.subdivision)))
  else none

/-- R161: the frames of a pulse event of pulse `q`, CLOCK before CLICK on each link. -/
def State.postPulse (s : State) (q : Nat) : State :=
  s.eachLink fun l s =>
    let s := s.postIf l (s.clocked l q) (.clock q)
    match s.subClick q with
    | some f => s.postIf l ((s.link l).role == .click) f
    | none => s

/-- R162: the level of the click of the beat just begun. -/
def State.beatLevel (s : State) : Nat :=
  if s.beat.transport = .countIn then (if s.beat.index = 0 then 3 else 2)
  else s.beat.inForce.accents.getD s.beat.index 0

/-- R162: the frames of a boundary or of START: CLOCK 0, BEAT, and the beat's CLICK on each link. -/
def State.postBoundary (s : State) : State :=
  s.eachLink fun l s =>
    let click := (s.link l).role == .click
    let s := s.postIf l (s.clocked l 0) (.clock 0)
    let s := s.postIf l click (.beat s.beat.bar s.beat.index s.beat.current s.beat.tempo)
    s.postIf l (click && decide (0 < s.beatLevel)) (.click s.beatLevel s.beat.index 0)

end Sys2Proof.Machine
end

