-- ==== Sys2Proof/Machine/Recall.lean ====
section
/-! DEFINITION. The switch controller (R105 to R126): resolving requests, gates, the commit of a switch, the
end of a recall, and the reports that the output scheduler's windows make to it (R81). -/
namespace Sys2Proof.Machine

/-- R177: the status of a reply. -/
inductive Status where
  | ok | busy | denied | badRequest | range | noSlot | notOwner | stale | invalid | endOfSet | noSet | following
deriving DecidableEq, Repr

/-- R191: the code of a status, in the order of R177. -/
def Status.code : Status → Nat
  | .ok => 0 | .busy => 1 | .denied => 2 | .badRequest => 3 | .range => 4 | .noSlot => 5 | .notOwner => 6
  | .stale => 7 | .invalid => 8 | .endOfSet => 9 | .noSet => 10 | .following => 11

/-- R106: the request kinds, but for CUE. -/
inductive Ask where
  | select (song scene : Nat)
  | nextScene | prevScene | nextSong | prevSong | apply
deriving DecidableEq, Repr

/-- R107: the base of a relative request. -/
def Switch.base (w : Switch) : Target :=
  match w.state with
  | .armed => (w.armed.map (·.target)).getD w.position
  | .recalling =>
    match w.queued with
    | some q => q.target
    | none => (w.recalling.map (·.1)).getD w.position
  | .idle => w.position

/-- R108: a request resolved against its base, or the status that refuses it (R106). -/
def State.resolve (s : State) (a : Ask) : Except Status Target :=
  let len := s.store.setLength
  let c := s.store.sceneCount
  let b := s.switch.base
  let p := s.switch.position
  if len = 0 then .error .noSet
  else match a with
  | .nextScene =>
    if len ≤ b.song then .error .endOfSet
    else if b.scene + 1 < c b.song then .ok ⟨b.song, b.scene + 1⟩
    else if b.song + 1 < len then .ok ⟨b.song + 1, 0⟩
    else .error .endOfSet
  | .prevScene =>
    if len ≤ b.song then .ok ⟨len - 1, c (len - 1) - 1⟩
    else if c b.song ≤ b.scene then .ok ⟨b.song, c b.song - 1⟩
    else if 0 < b.scene then .ok ⟨b.song, b.scene - 1⟩
    else if 0 < b.song then .ok ⟨b.song - 1, c (b.song - 1) - 1⟩
    else .error .endOfSet
  | .nextSong => if b.song + 1 < len then .ok ⟨b.song + 1, 0⟩ else .error .endOfSet
  | .prevSong =>
    if len ≤ b.song then .ok ⟨len - 1, 0⟩
    else if 0 < b.song then .ok ⟨b.song - 1, 0⟩
    else if 0 < b.scene then .ok ⟨0, 0⟩
    else .error .endOfSet
  | .select n k => if len ≤ n || c n ≤ k then .error .range else .ok ⟨n, k⟩
  | .apply =>
    if len ≤ p.song then .error .range
    else if c p.song ≤ p.scene then .ok ⟨p.song, c p.song - 1⟩
    else .ok p

/-- R46, R116: the table holds a KEYED entry. -/
def State.anyKeyed (s : State) : Bool := s.tracker.table.any fun e => e.state == .keyed

/-! ### The commit -/

/-- R100: the live copy that a scene record gives. -/
def Live.of (i : Identity) (r : Record) : Live :=
  { ident := some i, name := Record.slice r 0 16, beatsPerBar := u8At r 19, click := Record.click r,
    countIn := u8At r 22, zones := Record.zones r, recalls := Record.recalls r, overlays := Record.overlays r }

/-- R118: the target as the store's song entry stands: a scene index beyond the song becomes its last. -/
def Store.clampTarget (st : Store) (t : Target) : Target :=
  if t.scene < st.sceneCount t.song then t else ⟨t.song, st.sceneCount t.song - 1⟩

/-- R118: the record number of a target. -/
def Store.recordOf (st : Store) (t : Target) : Nat := Record.sceneRef (st.get .song t.song) t.scene

/-- R119 step 4, R120: the links on which a commit opens or restarts a window. -/
def State.recallLinks (s : State) : List Nat :=
  linkNumbers.filter fun l => (s.link l).available && !(s.recallsFor l).isEmpty

/-- R119 step 4, R120, R80: recall windows open or restart; other windows in SENDING drop their lists. -/
def State.openWindows (s : State) : State :=
  s.eachLink fun l s =>
    if (s.link l).available && !(s.recallsFor l).isEmpty then s.openWindow l else s.dropRecall l

/-- R119 steps 1 to 3: live copy, position, overlays. -/
def State.takeScene (s : State) (t : Target) : State :=
  let n := s.store.recordOf t
  let r := s.store.get .scene n
  { s with
    switch := { s.switch with
      live := Live.of ⟨t.song, t.scene, n, Record.gen .scene r⟩ r
      differs := false
      position := t }
    engaged := [] }

/-- R119 step 5, R165: whether the transport stops, or a segue begins; step 6, R133, R156: time and click. -/
def State.handTime (s : State) (prev : Nat) (t : Target) (atBar : Bool) : State :=
  let r := s.store.get .scene (s.store.recordOf t)
  let segue := Record.segue (s.store.get .song t.song)
  let s := if t.song ≠ prev ∧ !segue then s.stopTransport else s
  let s := (s.applySceneTempo (u16At r 16) (u8At r 18) (u8At r 19)).handSettings r
  if t.song ≠ prev ∧ segue then s.enterSegue atBar else s

/-- R121: SWITCH_DONE, with the live identity and the cause. -/
def State.raiseSwitchDone (s : State) (c : Cause) : State :=
  match s.switch.live.ident with
  | some i => s.raise (.switchDone i c)
  | none => s

/-- R119 step 7: the armed request is removed, the commit counted, and the state becomes IDLE with
SWITCH_DONE, or RECALLING. -/
def State.endCommit (s : State) (t : Target) (c : Cause) (wait : List Nat) : State :=
  let s := s.countSwitch fun x => { x with commits := bump x.commits 1 }
  if wait.isEmpty then
    { s with switch := { s.switch with state := .idle, armed := none, recalling := none, waitSet := [] } }.raiseSwitchDone c
  else
    { s with switch := { s.switch with state := .recalling, armed := none, recalling := some (t, c), waitSet := wait } }

/-- R118, R119: the commit of a switch to a target, with its cause. `atBar` says that a bar boundary's step 3
makes it. -/
def State.commit (s : State) (target : Target) (cause : Cause) (atBar : Bool) : State :=
  let t := s.store.clampTarget target
  let prev := s.switch.position.song
  let s := s.takeScene t
  let wait := s.recallLinks
  let s := s.openWindows
  let s := s.handTime prev t atBar
  s.endCommit t cause wait

/-- R104, R126: the start-up commit. -/
def State.startUp (s : State) : State :=
  if s.store.setLength = 0 then s else s.commit ⟨s.store.startSong, 0⟩ .startUp false

/-! ### Gates -/

/-- R114: the gate of an armed request as it is evaluated at arming. -/
def State.gateOpen (s : State) (g : Gate) : Bool :=
  match g with
  | .immediate => true
  | .atBar => !s.moving
  | .atRelease => !s.anyKeyed

/-- R110, R111, R122: a request is armed and its gate evaluated at once. -/
def State.arm (s : State) (r : Request) : State :=
  if s.gateOpen r.gate then
    { s with switch := { s.switch with state := .armed, armed := some { r with count := 0 } } }.commit r.target r.cause false
  else { s with switch := { s.switch with state := .armed, armed := some { r with count := 0 } } }

/-- R110 to R112: a resolved request is taken. -/
def State.takeRequest (s : State) (r : Request) : State :=
  let replaced := match s.switch.state with
    | .idle => false
    | .armed => true
    | .recalling => s.switch.queued.isSome
  let s := s.countSwitch fun x =>
    { x with taken := bump x.taken 1, superseded := bump x.superseded (if replaced then 1 else 0) }
  match s.switch.state with
  | .recalling => { s with switch := { s.switch with queued := some { r with count := 0 } } }
  | _ => s.arm r

/-- R106, R108: a request is resolved and taken, or refused and counted. -/
def State.request (s : State) (a : Ask) (g : Gate) (fallback : Nat) (c : Cause) : Except Status Target × State :=
  match s.resolve a with
  | .ok t => (.ok t, s.takeRequest { target := t, gate := g, fallback := fallback, count := 0, cause := c })
  | .error e => (.error e, s.countSwitch fun x => { x with refused := bump x.refused 1 })

/-- R109: a CUE posted for a song is taken when that song is the base's song, else skipped. -/
def State.takeCue (s : State) (song scene : Nat) : State :=
  if s.switch.base.song = song then
    s.takeRequest { target := ⟨song, scene⟩, gate := .atBar, fallback := 0, count := 0, cause := .cue }
  else s.countSwitch fun x => { x with cuesSkipped := bump x.cuesSkipped 1 }

/-- R116: the fallback count after one more bar boundary, stopping at 8. -/
def Request.counted (r : Request) : Request := { r with count := if r.count < 8 then r.count + 1 else 8 }

/-- R117 steps 1 and 2: a bar boundary at the switch controller. DEDUCED (log entry 46): every boundary met in
ARMED counts, the first after the taking too, so that a fallback of 1 bar commits there (R116, R117), where R111's
example, which names no number of bars, only counts. -/
def State.barGate (s : State) : State :=
  match s.switch.state, s.switch.armed with
  | .armed, some r =>
    match r.gate with
    | .atBar => s.commit r.target r.cause true
    | .atRelease =>
      let r := r.counted
      let s := { s with switch := { s.switch with armed := some r } }
      if 0 < r.fallback ∧ r.fallback ≤ r.count then
        (s.countSwitch fun x => { x with fallbackCommits := bump x.fallbackCommits 1 }).commit r.target .fallback true
      else s
    | .immediate => s
  | _, _ => s

/-- R46, R116: the note tracker's report at the switch controller. -/
def State.releaseReport (s : State) : State :=
  match s.switch.state, s.switch.armed with
  | .armed, some r => if r.gate = .atRelease ∧ !s.anyKeyed then s.commit r.target r.cause false else s
  | _, _ => s

/-- R115: the beat engine's report that the transport has entered STOPPED. -/
def State.stopReport (s : State) : State :=
  match s.switch.state, s.switch.armed with
  | .armed, some r => if r.gate = .atBar then s.commit r.target r.cause false else s
  | _, _ => s

/-- R159: STOP from a command or a footswitch. A stop of a moving transport reports (step 4). -/
def State.stop (s : State) : State := if s.moving then s.stopTransport.stopReport else s.stopTransport

/-- R113: what CANCEL_SWITCH removes, and the state it leaves. -/
def State.cancel (s : State) : Nat × State :=
  let cut (w : Switch) : State := { s with switch := { w with ctr := { w.ctr with cancelled := bump w.ctr.cancelled 1 } } }
  match s.switch.state with
  | .armed => (1, cut { s.switch with state := .idle, armed := none })
  | .recalling => if s.switch.queued.isSome then (2, cut { s.switch with queued := none }) else (0, s)
  | .idle => (0, s)

/-- R123: the requests that a new set length removes. -/
def Request.beyond (len : Nat) : Option Request → Bool
  | some r => decide (len ≤ r.target.song)
  | none => false

/-- R123: the switch controller is told a new set length. -/
def State.setLengthChanged (s : State) (len : Nat) : State :=
  let w := s.switch
  let cutA := Request.beyond len w.armed
  let cutQ := Request.beyond len w.queued
  let removed := (if cutA then 1 else 0) + (if cutQ then 1 else 0)
  let ctr := { w.ctr with cancelled := bump w.ctr.cancelled removed }
  if len = 0 then
    { s with switch := { w with state := .idle, armed := none, queued := none, recalling := none, waitSet := [], ctr := ctr } }
  else
    { s with switch := { w with
        state := if cutA then .idle else w.state
        armed := if cutA then none else w.armed
        queued := if cutQ then none else w.queued
        ctr := ctr } }

/-! ### The end of a recall, and the windows' reports -/

/-- R121, R122: RECALLING ends: SWITCH_DONE is raised, and a queued request is armed. -/
def State.recallEnd (s : State) : State :=
  let c := s.switch.recalling.map (·.2)
  let q := s.switch.queued
  let s := { s with switch := { s.switch with state := .idle, recalling := none, queued := none } }
  let s := match c with
    | some c => s.raiseSwitchDone c
    | none => s
  match q with
  | some r => s.arm r
  | none => s

/-- R81, R121: a window's report: the link leaves the wait set, and the last one ends the recall. -/
def State.windowReport (s : State) (l : Nat) : State :=
  if s.switch.state = .recalling ∧ s.switch.waitSet.contains l then
    let s := { s with switch := { s.switch with waitSet := s.switch.waitSet.filter (· != l) } }
    if s.switch.waitSet.isEmpty then s.recallEnd else s
  else s

/-- R78, R79, R81: SETTLING ends when the settle time has passed: DRAINING, the report, then the moves. DEDUCED (log
entry 14): the report comes before the moves. -/
def State.endSettling (s : State) (l : Nat) : State :=
  if s.settled l then ((s.beginDrain l).windowReport l).drain l else s

/-- R77, R78: the window's fed frame has been transmitted: the next is fed, or SETTLING begins. -/
def State.recallSent (s : State) (l : Nat) : State :=
  let s := s.onLink l fun k => { k with window := { k.window with fed := false } }
  if (s.link l).window.state = .sending then
    if (s.link l).window.todo.isEmpty then (s.settle l).endSettling l else s.feed l
  else s

end Sys2Proof.Machine
end

