-- ==== Sys2Proof/Machine/Router.lean ====
section
/-! DEFINITION. The event router (R20 to R40): candidates, copy lists, frame lists, and the engaged overlay
list. -/
namespace Sys2Proof.Machine

/-- R22: the newest engaged REPLACE overlay with a zone for `src`, and the overlays engaged after it. The list
is oldest engagement first. -/
def Live.replacing (live : Live) (src : Nat) : List Nat → Option (Overlay × List Nat)
  | [] => none
  | i :: later =>
    match Live.replacing live src later with
    | some found => some found
    | none =>
      match live.overlays[i]? with
      | some o => if o.replace && o.zones.any (·.source == src) then some (o, later) else none
      | none => none

/-- R22: the zones with source `src` of the ADD overlays of a list of engagements. -/
def Live.addZones (live : Live) (src : Nat) (engaged : List Nat) : List Zone :=
  engaged.flatMap fun i =>
    match live.overlays[i]? with
    | some o => if o.replace then [] else o.zones.filter (·.source == src)
    | none => []

/-- R22: the candidate list of an event from `src`. -/
def Live.candidates (live : Live) (engaged : List Nat) (src : Nat) : List Zone :=
  match live.replacing src engaged with
  | some (o, later) => o.zones.filter (·.source == src) ++ live.addZones src later
  | none => live.zones.filter (·.source == src) ++ live.addZones src engaged

/-- R23, R30: the zone answers the event's channel. -/
def Zone.onChannel (z : Zone) (ch : Nat) : Bool := z.srcCh.all (· == ch)

/-- R23: the zone matches a NOTE_ON. -/
def Zone.answers (z : Zone) (ch key vel : Nat) : Bool :=
  z.onChannel ch && decide (z.keyLow ≤ key) && decide (key ≤ z.keyHigh) && decide (z.velLow ≤ vel)
    && decide (vel ≤ z.velHigh)

/-- R25: the destination key of a copy, none outside 0 to 127. -/
def Zone.destKey (z : Zone) (key : Nat) : Option Nat :=
  let k := (key : Int) + z.transpose
  if 0 ≤ k ∧ k ≤ 127 then some k.toNat else none

/-- R25, R31: the destination channel. -/
def Zone.outCh (z : Zone) (ch : Nat) : Nat := z.destCh.getD ch

/-- R26: the out velocity: (v × scale + 32) / 64, floor, plus the offset, limited to 1 to 127. -/
def Zone.outVel (z : Zone) (v : Nat) : Nat := (limitInt 1 127 (((v * z.scale + 32) / 64 : Nat) + z.offset)).toNat

/-- R28: a copy as the router hands it to the note tracker. -/
structure Plan where
  link : Nat
  ch : Nat
  key : Nat
  vel : Nat
  holdFollow : Bool
  passPressure : Bool
deriving DecidableEq, Repr

/-- R24: one matching zone added to the copy list and the router's counters. -/
def State.planZone (s : State) (ch key vel : Nat) (w : List Plan × RouterCounters) (z : Zone) :
    List Plan × RouterCounters :=
  let (plans, c) := w
  if !z.answers ch key vel then (plans, c)
  else if Config.fanOut ≤ plans.length then (plans, { c with fanOut := bump c.fanOut 1 })
  else
    match z.destKey key with
    | none => (plans, { c with transposeRange := bump c.transposeRange 1 })
    | some k =>
      if !(s.link z.destLink).available then (plans, { c with unavailable := bump c.unavailable 1 })
      else (plans ++ [⟨z.destLink, z.outCh ch, k, z.outVel vel, z.holdFollow, z.passPressure⟩], c)

/-- R24: the copy list of a NOTE_ON and the router's counters after the walk. -/
def State.planNote (s : State) (src ch key vel : Nat) : List Plan × RouterCounters :=
  (s.switch.live.candidates s.engaged src).foldl (s.planZone ch key vel) ([], s.router)

/-- R30: the pass flag of a zone for a controller frame's kind. -/
def Zone.passes (z : Zone) : Frame → Bool
  | .control .. => z.passControl
  | .bend .. => z.passBend
  | .pressure .. => z.passPressure
  | _ => false

/-- R31: the frame with its channel replaced. -/
def Frame.withCh (ch : Nat) : Frame → Frame
  | .control _ num val => .control ch num val
  | .bend _ val => .bend ch val
  | .pressure _ key val => .pressure ch key val
  | f => f

/-- R30, R31: one candidate zone added to the list of destinations (link, channel). -/
def State.aimZone (s : State) (ch : Nat) (f : Frame) (w : List (Nat × Nat) × RouterCounters) (z : Zone) :
    List (Nat × Nat) × RouterCounters :=
  let (dests, c) := w
  if !(z.onChannel ch && z.passes f) then (dests, c)
  else if dests.contains (z.destLink, z.outCh ch) then (dests, c)
  else if Config.fanOut ≤ dests.length then (dests, { c with fanOut := bump c.fanOut 1 })
  else if !(s.link z.destLink).available then (dests, { c with unavailable := bump c.unavailable 1 })
  else (dests ++ [(z.destLink, z.outCh ch)], c)

/-- R31: the destinations of a controller event and the router's counters after the walk. -/
def State.aim (s : State) (src ch : Nat) (f : Frame) : List (Nat × Nat) × RouterCounters :=
  (s.switch.live.candidates s.engaged src).foldl (s.aimZone ch f) ([], s.router)

/-- R30 to R32: a CONTROL, BEND or whole-channel PRESSURE event from `src`: one frame to each destination. -/
def State.routeControl (s : State) (src ch : Nat) (f : Frame) : State :=
  let (dests, c) := s.aim src ch f
  dests.foldl (fun s d => s.placeControl d.1 (Frame.withCh d.2 f)) { s with router := c }

/-- R35: an engage request. -/
def State.engage (s : State) (i : Nat) : State :=
  if i < s.switch.live.overlays.length ∧ ¬ s.engaged.contains i then { s with engaged := s.engaged ++ [i] } else s

/-- R36: a disengage request. -/
def State.disengage (s : State) (i : Nat) : State := { s with engaged := s.engaged.erase i }

/-- R173: a toggle request. -/
def State.toggle (s : State) (i : Nat) : State := if s.engaged.contains i then s.disengage i else s.engage i

end Sys2Proof.Machine
end

