-- ==== Sys2Proof/Machine/Tracker.lean ====
section
/-! DEFINITION. The note tracker (R41 to R64): entries, copies, destination counts, hold and panic. -/
namespace Sys2Proof.Machine

/-- A change of the note tracker's state. -/
def State.onTracker (s : State) (f : Tracker → Tracker) : State := { s with tracker := f s.tracker }

/-- R41: the entry is that of (source, channel, key). -/
def Entry.isFor (src ch key : Nat) (e : Entry) : Bool := e.src == src && e.ch == ch && e.key == key

/-- R41: the entry of (source, channel, key). -/
def State.entry (s : State) (src ch key : Nat) : Option Entry := s.tracker.table.find? (Entry.isFor src ch key)

/-- R43: the destination count. -/
def State.destCount (s : State) (link ch key : Nat) : Nat := s.tracker.counts.read (destAddr link ch key)

/-- R43: a destination count written. -/
def State.setCount (s : State) (link ch key n : Nat) : State :=
  s.onTracker fun t => { t with counts := t.counts.write (destAddr link ch key) n }

/-- R44: the hold flag of (source, channel) is set. -/
def State.held (s : State) (src ch : Nat) : Bool := s.tracker.holds.read (holdAddr src ch) != 0

/-- R44: a hold flag written, 1 for set. -/
def State.setHold (s : State) (src ch n : Nat) : State :=
  s.onTracker fun t => { t with holds := t.holds.write (holdAddr src ch) n }

/-- R45: the release velocity of every release but that of a NOTE_OFF. -/
def releaseVelocity : Nat := 64

/-- R45: a copy is released with a release velocity: a PENDING one is withdrawn, and a SENT one posts its
release when its destination count reaches 0. DEDUCED (log entry 49): a PENDING copy posts nothing even when it is the
last holder of a module key that a SENT copy, released before it, has left sounding (R47). -/
def State.releaseCopy (vel : Nat) (s : State) (c : Copy) : State :=
  let n := s.destCount c.link c.ch c.key - 1
  let s := s.setCount c.link c.ch c.key n
  match c.state with
  | .pending => s.withdraw c.link c.id
  | .sent => if n = 0 then s.post c.link c.ch c.key vel else s

/-- The entry of (source, channel, key) removed from the table. -/
def State.removeEntry (s : State) (e : Entry) : State :=
  s.onTracker fun t => { t with table := t.table.filter fun x => !Entry.isFor e.src e.ch e.key x }

/-- R46: an entry is released whole. -/
def State.releaseEntry (vel : Nat) (s : State) (e : Entry) : State :=
  (e.copies.foldl (State.releaseCopy vel) s).removeEntry e

/-- R46: every entry that a test names is released whole, in creation order, and the report made when there
was one. -/
def State.releaseAll (s : State) (p : Entry → Bool) : State :=
  (s.tracker.table.filter p).foldl (State.releaseEntry releaseVelocity) s

/-- R48: the re-strike. -/
def State.reStrike (s : State) (src ch key : Nat) : State :=
  match s.entry src ch key with
  | some e => (s.releaseEntry releaseVelocity e).countTracker fun c => { c with reStrikes := bump c.reStrikes 1 }
  | none => s

/-- R49: the entry a steal takes: the oldest SUSTAINED one, when the table is full. -/
def State.victim (s : State) : Option Entry :=
  if Config.tableSize ≤ s.tracker.table.length then s.tracker.table.find? fun e => e.state == .sustained else none

/-- R49: the steal. -/
def State.steal (s : State) : State :=
  match s.victim with
  | some e => (s.releaseEntry releaseVelocity e).countTracker fun c => { c with steals := bump c.steals 1 }
  | none => s

/-- R50: the refusal, with TABLE_FULL when its timer is stopped. -/
def State.refuse (s : State) (src ch key : Nat) : State :=
  let s := s.countTracker fun c => { c with refusedNotes := bump c.refusedNotes 1 }
  match s.tracker.tableFull with
  | some _ => s
  | none =>
    (s.onTracker fun t => { t with tableFull := some (s.now + Config.alertTime) }).raise (.tableFull src ch key)

/-- R51: a KEYED entry with no copies joins the end of the table. -/
def State.addEntry (s : State) (src ch key : Nat) : State :=
  s.onTracker fun t => { t with table := t.table ++ [{ src := src, ch := ch, key := key, state := .keyed, copies := [] }] }

/-- R52 step 3: a copy appended to its entry. -/
def State.addCopy (s : State) (src ch key : Nat) (c : Copy) : State :=
  s.onTracker fun t =>
    { t with
      table := t.table.map fun e => if Entry.isFor src ch key e then { e with copies := e.copies ++ [c] } else e
      nextCopy := t.nextCopy + 1 }

/-- R52: one copy of the router's list is taken. -/
def State.takeCopy (src ch key : Nat) (s : State) (p : Plan) : State :=
  let n := s.destCount p.link p.ch p.key
  if Config.maxCount ≤ n then s.countTracker fun c => { c with suppressed := bump c.suppressed 1 }
  else if !(s.link p.link).takesNote then
    (s.refuseNote p.link).countTracker fun c => { c with refusedCopies := bump c.refusedCopies 1 }
  else
    let id := s.tracker.nextCopy
    ((s.placeNote p.link p.ch p.key p.vel id).addCopy src ch key
      { id := id, link := p.link, ch := p.ch, key := p.key, vel := p.vel, holdFollow := p.holdFollow,
        passPressure := p.passPressure, state := .pending }).setCount p.link p.ch p.key (n + 1)

/-- R48 to R52: a NOTE_ON with the router's copy list, and the report of R46 when an entry was removed. -/
def State.strike (s : State) (src ch key : Nat) (plans : List Plan) : State :=
  let s1 := s.reStrike src ch key
  let s2 := s1.steal
  let s3 := if Config.tableSize ≤ s2.tracker.table.length then s2.refuse src ch key
    else plans.foldl (State.takeCopy src ch key) (s2.addEntry src ch key)
  if (s.entry src ch key).isSome || s1.victim.isSome then s3.releaseReport else s3

/-- R24, R28: a NOTE_ON event: the router's walk, then the note tracker. -/
def State.routeNoteOn (s : State) (src ch key vel : Nat) : State :=
  let (plans, c) := s.planNote src ch key vel
  let c := if plans.isEmpty then { c with withoutCopies := bump c.withoutCopies 1 } else c
  { s with router := c }.strike src ch key plans

/-- R54: the copies that stay under hold. -/
def Entry.staying (e : Entry) : List Copy := e.copies.filter (·.holdFollow)

/-- R54: the copies without hold-follow are released, and the entry becomes SUSTAINED with the rest. -/
def State.sustain (s : State) (vel : Nat) (e : Entry) : State :=
  ((e.copies.filter fun c => !c.holdFollow).foldl (State.releaseCopy vel) s).onTracker fun t =>
    { t with table := t.table.map fun x =>
        if Entry.isFor e.src e.ch e.key x then { x with state := .sustained, copies := e.staying } else x }

/-- R53, R54: a NOTE_OFF event. -/
def State.liftKey (s : State) (src ch key vel : Nat) : State :=
  match s.entry src ch key with
  | none => s.countTracker fun c => { c with unmatchedReleases := bump c.unmatchedReleases 1 }
  | some e =>
    if s.held src ch && !e.staying.isEmpty then
      let s' := s.sustain vel e
      if e.state = .sustained then s' else s'.releaseReport
    else (s.releaseEntry vel e).releaseReport

/-- R55, R56: a HOLD event. -/
def State.holdEvent (s : State) (src ch state : Nat) : State :=
  if state = 0 then
    let p : Entry → Bool := fun e => e.state == .sustained && e.src == src && e.ch == ch
    let s' := (s.setHold src ch 0).releaseAll p
    if s.tracker.table.any p then s'.releaseReport else s'
  else s.setHold src ch 1

/-- R57: the destinations of key-addressed pressure: each distinct one among the pass-pressure copies. -/
def Entry.pressureDests (e : Entry) : List (Nat × Nat × Nat) :=
  (e.copies.filter (·.passPressure)).foldl
    (fun d c => if d.contains (c.link, c.ch, c.key) then d else d ++ [(c.link, c.ch, c.key)]) []

/-- R57: a key-addressed PRESSURE event. -/
def State.pressKey (s : State) (src ch key val : Nat) : State :=
  match s.entry src ch key with
  | none => s.countTracker fun c => { c with unmatchedPressure := bump c.unmatchedPressure 1 }
  | some e => e.pressureDests.foldl (fun s d => s.placeControl d.1 (.pressure d.2.1 d.2.2 val)) s

/-- R58: the entries of a source are released and its hold flags cleared. The report of R46 is made by the
caller, once the whole loss is done. -/
def State.loseSource (s : State) (l : Nat) : State :=
  (s.releaseAll fun e => e.src == l).onTracker fun t => { t with holds := t.holds.filter fun h => h.1 / 32 != l }

/-- R59: a SUSTAINED entry that a module loss leaves with no copies. -/
def Entry.spent (e : Entry) : Bool := e.state == .sustained && e.copies.isEmpty

/-- R59: the entry without its copies to link `l`. -/
def Entry.without (l : Nat) (e : Entry) : Entry := { e with copies := e.copies.filter fun c => c.link != l }

/-- R59: every copy to a link is removed, its counts become 0, and spent entries are removed. -/
def State.loseModule (s : State) (l : Nat) : State :=
  s.onTracker fun t =>
    { t with
      table := (t.table.map (Entry.without l)).filter fun e => !e.spent
      counts := t.counts.filter fun c => c.1 / 4096 != l }

/-- R46: the report is due when the table lost an entry. -/
def State.reportIfShorter (s : State) (before : Nat) : State :=
  if s.tracker.table.length < before then s.releaseReport else s

/-- R60: the table emptied, every hold flag clear, and SILENCE on every UP MODULE link. -/
def State.panicWork (s : State) : State :=
  ((s.releaseAll fun _ => true).onTracker fun t => { t with holds := [] }).onLinks fun _ k =>
    if k.available then { k with silenceFlag := true } else k

/-- R60: panic, with the report of R46 to the switch controller. -/
def State.panic (s : State) : State := s.panicWork.releaseReport

end Sys2Proof.Machine
end

