-- ==== Sys2Proof/Machine/BeatOps.lean ====
section
/-! DEFINITION. The beat engine's events (R130 to R137, R157 to R166) and the follow unit (R142 to R154). -/
namespace Sys2Proof.Machine

/-! ### Cues, boundaries, START -/

/-- R164: the scene index of the cue that names bar `bar` + 1 in the song of the position. -/
def State.cueFor (s : State) (bar : Int) : Option Nat :=
  if s.switch.position.song < s.store.setLength then
    ((Record.cues (s.store.get .song s.switch.position.song)).find? fun c => (c.1 : Int) == bar + 1).map (·.2)
  else none

/-- R164: the cue of the next bar is posted to the switch controller. -/
def State.postCue (s : State) : State :=
  match s.cueFor s.beat.bar with
  | some k => s.takeCue s.switch.position.song k
  | none => s

/-- R156, R163: the click settings pending are taken into force. -/
def State.takeClick (s : State) : State := { s with beat := { s.beat with inForce := s.beat.handed } }

/-- R132: the bar after a bar: 1 after −1, and 32767 stays. -/
def nextBar (bar : Int) : Int := if bar = -1 then 1 else if bar < 32767 then bar + 1 else 32767

/-- R131 step 3, R132, R165: the bar number advances; the segue mark makes it 1 and clears. -/
def State.advanceBar (s : State) : State :=
  { s with beat := { s.beat with
      bar := if s.beat.segueMark then 1 else nextBar s.beat.bar
      segueMark := false } }

/-- R163: step 4 of a bar boundary, after the switch controller has handed it back. -/
def State.setUpBar (s : State) : State :=
  if !s.moving then s
  else
    let s := if s.beat.transport == .countIn && s.beat.bar == 1 then
        { s with beat := { s.beat with transport := .running } } else s
    let s := { s with beat := { s.beat with current := s.beat.pending } }
    let s := s.takeClick.postBoundary
    if s.running then s.postCue else s

/-- R131: a beat boundary, the pulse being 0 already. -/
def State.boundary (s : State) : State :=
  if s.beat.index + 1 < s.beat.current then
    let s := { s with beat := { s.beat with index := s.beat.index + 1 } }
    s.stepRamp.takeClick.postBoundary
  else
    let s := { s with beat := { s.beat with index := 0 } }
    s.stepRamp.advanceBar.barGate.setUpBar

/-- R157: the bar number that START gives for a number of count-in bars. -/
def countInBar (n : Nat) : Int := if n = 2 then -2 else if n = 1 then -1 else 1

/-- R157: START is carried out. -/
def State.startNow (s : State) : State :=
  let s := { s with beat := { s.beat with
      pulse := 0, fraction := 0, owed := 0, index := 0, current := s.beat.pending, inForce := s.beat.handed,
      bar := countInBar s.beat.countIn, startPending := false,
      transport := if s.beat.countIn = 0 then .running else .countIn } }
  let s := s.postBoundary
  if s.running then s.postCue else s

/-- R157: START from a command or a footswitch: carried out, held pending, or without effect. -/
def State.start (s : State) : State :=
  if s.moving || s.beat.startPending then s
  else if s.follow.state = .locked then { s with beat := { s.beat with startPending := true } }
  else s.startNow

/-- R158: a report of the follow unit carries out a START held pending. -/
def State.followReport (s : State) : State :=
  if s.beat.startPending && !s.moving then s.startNow else s

/-- R160: what a START_STOP footswitch hands over. -/
def State.startStop (s : State) : State := if s.moving || s.beat.startPending then s.stop else s.start

/-- R137, R151: the instant becomes the beat: pulse and fraction 0, with a boundary when the pulse was 120 or
above. Below 120 no CLOCK 0 is posted (R161, R162; log entry 40). -/
def State.snap (s : State) : State :=
  let p := s.beat.pulse
  let s := { s with beat := { s.beat with pulse := 0, fraction := 0, owed := 0 } }
  if 120 ≤ p then s.boundary else s

/-! ### The accumulator -/

/-- R130: the µs until the accumulator's sum next reaches a pulse; 0 when an advance is owed already. -/
def Beat.untilPulse (b : Beat) : Nat :=
  if 0 < b.owed ∨ b.applied = 0 then 0 else (Config.pulseUnits - b.fraction + b.applied - 1) / b.applied

/-- R130: time passes until an advance of the accumulator is owed. -/
def State.toPulse (s : State) : State := s.elapse s.beat.untilPulse

/-- R130: an advance from a pulse below 239: a pulse event. -/
def State.pulseEvent (s : State) : State :=
  let q := s.beat.pulse + 1
  { s with beat := { s.beat with pulse := q, owed := s.beat.owed - 1 } }.postPulse q

/-- R130: an advance from pulse 239: a beat boundary. -/
def State.wrapEvent (s : State) : State :=
  { s with beat := { s.beat with pulse := 0, owed := s.beat.owed - 1 } }.boundary

/-- R130: an advance of the accumulator is taken as the event that it is. -/
def State.takeAdvance (s : State) : State := if s.beat.pulse < 239 then s.pulseEvent else s.wrapEvent

/-- R130: an advance fell due before instant `t`, or before this instant when `t` has passed. One that stands at
the very instant has not: whether it or the event of that instant comes first is open (R151; log entry 2). -/
def Beat.fellDue (b : Beat) (now t : Nat) : Bool :=
  if 0 < b.owed then decide (now < t) || decide (1 < b.owed) || decide (b.applied ≤ b.fraction)
  else decide (0 < b.applied) && decide (now + b.untilPulse < t)

/-- R130: time passes up to instant `t`, in which at most `fuel` advances that fell due before it are taken. -/
def State.runPulses (t : Nat) : Nat → State → State
  | 0, s => s.advanceTo t
  | fuel + 1, s =>
    if s.moving && s.beat.fellDue s.now t then State.runPulses t fuel s.toPulse.takeAdvance else s.advanceTo t

/-- R130, R144, R159: time passes up to instant `t`, and the advances that fell due before it are taken, so that what
is taken at `t` finds the pulse that the accumulator holds then, and a stop at `t` loses none of them (log entry 2).
Two advances never fall due in one microsecond (R128, R129), so the advances are no more than those owed and the
microseconds that pass. -/
def State.runTo (s : State) (t : Nat) : State := s.runPulses t (s.beat.owed + (t - s.now))

/-- R130, R137, R159: the advances that fell due before this instant are taken, so that what is carried out now reads,
moves and stops the pulse that the accumulator holds (log entry 2). -/
def State.caughtUp (s : State) : State := s.runTo s.now

/-! ### Taps (R136 to R138) -/

/-- The sum of a list of intervals. -/
def sumList : List Nat → Nat
  | [] => 0
  | x :: r => x + sumList r

/-- R137: the tempo of `n` intervals with sum Σ: 6,000,000,000 × n / Σ, rounded and limited. -/
def tapTempo (taps : List Nat) : Nat := limitTempo (roundDiv (6000000000 * taps.length) (sumList taps))

/-- R136: an interval joins the list, from which the oldest of four is removed first. -/
def joinTap (taps : List Nat) (i : Nat) : List Nat := (if taps.length < 4 then taps else taps.drop 1) ++ [i]

/-- R136, R145: an interval in range. -/
def inRange (i : Nat) : Bool := decide (Config.minInterval ≤ i) && decide (i ≤ Config.maxInterval)

/-- R136, R137: a tap that is taken, at the present instant. -/
def State.takeTap (s : State) : State :=
  match s.beat.lastTap with
  | none => { s with beat := { s.beat with lastTap := some s.now, taps := [] } }
  | some t =>
    let i := s.now - t
    if inRange i then
      let taps := joinTap s.beat.taps i
      let s := { s with beat := { s.beat with lastTap := some s.now, taps := taps } }
      if 2 ≤ taps.length then
        let s := s.endRamp.writeTempo (tapTempo taps)
        if s.moving then s.snap else s
      else s
    else
      { s with beat := { s.beat with
          lastTap := some s.now, taps := []
          ctr := { s.beat.ctr with tapRestarts := bump s.beat.ctr.tapRestarts 1 } } }

/-- R138: a tap is refused while the follow unit is in any state other than OFF. -/
def State.tap (s : State) : State :=
  if s.follow.state = .off then s.takeTap
  else s.countBeat fun c => { c with tapsRefused := bump c.tapsRefused 1 }

/-! ### The follow unit -/

/-- R145: T_meas = 6,000,000,000 / I, rounded. -/
def estimate (i : Nat) : Nat := roundDiv 6000000000 i

/-- R145: the difference of two numbers. -/
def absDiff (a b : Nat) : Nat := if a < b then b - a else a - b

/-- R145: an interval in tolerance: in range, with an estimate within floor(T / 8) of T. -/
def inTolerance (t i : Nat) : Bool := inRange i && decide (absDiff (estimate i) t ≤ t / 8)

/-- R147, R148: T moved toward the estimate by a share of the difference, truncated. -/
def approach (t est share : Nat) : Nat := ((t : Int) + Int.tdiv ((est : Int) - t) share).toNat

/-- R152: the phase error in pulses. -/
def phaseError (p : Nat) : Int := if p < 120 then -(p : Int) else 240 - p

/-- R152: the correction: half the error, truncated, limited to −12 to +12. -/
def phaseCorrection (p : Nat) : Int := limitInt (-12) 12 (Int.tdiv (phaseError p) 2)

/-- R149: the silence limit of a tempo: 12,000,000,000 / T µs, truncated. -/
def silenceLimit (t : Nat) : Nat := 12000000000 / t

/-- A change of the follow unit's state. -/
def State.onFollow (s : State) (f : Follow → Follow) : State := { s with follow := f s.follow }

/-- R145: an interval measured is recorded, with its estimate when it is in range. -/
def State.measured (s : State) (i : Nat) : State :=
  s.onFollow fun f =>
    { f with lastInterval := some i, lastEstimate := if inRange i then some (estimate i) else f.lastEstimate }

/-- R149: the silence timer starts or restarts, for T as it stands. -/
def State.armSilence (s : State) : State := s.onFollow fun f => { f with limit := some (silenceLimit s.beat.tempo) }

/-- R146: a frame in SEEK whose interval is in range: LOCKING is entered. -/
def State.enterLocking (s : State) (est : Nat) : State :=
  let s := s.onFollow fun f => { f with state := .locking, good := 0, outlierRun := 0 }
  let s := s.endRamp.writeTempo est
  let s := if s.moving then s.snap else s
  s.armSilence

/-- R147, R148, R149: a return to SEEK from LOCKING or LOCKED. -/
def State.loseLock (s : State) : State :=
  s.onFollow fun f =>
    { f with state := .seek, good := 0, outlierRun := 0, limit := none,
             ctr := { f.ctr with lockLosses := bump f.ctr.lockLosses 1 } }

/-- R147, R148: an outlier: counted, and the third in a row returns to SEEK. -/
def State.outlier (s : State) : State :=
  let s := s.onFollow fun f =>
    { f with outlierRun := f.outlierRun + 1, ctr := { f.ctr with outliers := bump f.ctr.outliers 1 } }
  if 3 ≤ s.follow.outlierRun then s.loseLock else s.armSilence

/-- R153: LOCK_CHANGE, with the state and T as they stand. -/
def State.raiseLockChange (s : State) : State := s.raise (.lockChange s.follow.state s.beat.tempo)

/-- R147: a frame in tolerance in LOCKING. -/
def State.goodBeat (s : State) (est : Nat) : State :=
  let s := s.writeTempo (approach s.beat.tempo est 4)
  let s := if s.moving then s.snap else s
  let s := s.onFollow fun f => { f with good := f.good + 1, outlierRun := 0 }
  let s := s.armSilence
  if 4 ≤ s.follow.good then
    (s.onFollow fun f => { f with state := .locked, ctr := { f.ctr with locks := bump f.ctr.locks 1 } }).raiseLockChange
  else s

/-- R152: the phase correction is computed and applied. -/
def State.correct (s : State) : State :=
  let c := phaseCorrection s.beat.pulse
  { s with
    beat := { s.beat with applied := corrected s.beat.tempo c }
    follow := { s.follow with correction := some c } }

/-- R148: a frame in tolerance in LOCKED. -/
def State.lockedBeat (s : State) (est : Nat) : State :=
  let s := s.writeTempo (approach s.beat.tempo est 8)
  let s := if s.moving then s.correct else s
  (s.onFollow fun f => { f with outlierRun := 0 }).armSilence

/-- The arrival of the frame being taken becomes the last arrival. -/
def State.arrived (s : State) (a : Nat) : State := s.onFollow fun f => { f with lastArrival := some a }

/-- R144 to R150: a BEAT frame with arrival time `a`, in a state other than OFF. -/
def State.takeBeat (s : State) (a : Nat) : State :=
  let s := s.countFollow fun c => { c with beats := bump c.beats 1 }
  match s.follow.state, s.follow.lastArrival with
  | .off, _ => s
  | .holdover, _ => (s.arrived a).onFollow fun f => { f with state := .seek, good := 0, outlierRun := 0 }
  | .seek, none => s.arrived a
  | .seek, some last =>
    let i := a - last
    let s := (s.measured i).arrived a
    if inRange i then s.enterLocking (estimate i) else s
  | .locking, last =>
    let i := a - last.getD a
    let s := (s.measured i).arrived a
    if inTolerance s.beat.tempo i then s.goodBeat (estimate i) else s.outlier
  | .locked, last =>
    let i := a - last.getD a
    let s := (s.measured i).arrived a
    if inTolerance s.beat.tempo i then s.lockedBeat (estimate i) else s.dropCorrection.outlier

/-- R144: a BEAT frame is taken, and the external beat reported to the beat engine. In OFF it is discarded. -/
def State.beatFrame (s : State) (a : Nat) : State :=
  if s.follow.state = .off then s else (s.takeBeat a).followReport

/-- R149: the follow unit's silence timer has expired. -/
def State.followSilent (s : State) : State :=
  match s.follow.state with
  | .locking => s.loseLock
  | .locked =>
    let s := s.onFollow fun f =>
      { f with state := .holdover, limit := none, ctr := { f.ctr with holdovers := bump f.ctr.holdovers 1 } }
    (s.writeTempo s.beat.tempo).raiseLockChange.followReport
  | _ => s

/-- R149: the instant at which the silence timer expires, while it runs. -/
def Follow.silentAt (f : Follow) : Option Nat :=
  match f.lastArrival, f.limit with
  | some a, some d => some (a + d)
  | _, _ => none

/-- R142, R143, R154: the follow unit enters a state with every item none, 0 or stopped; its counters are
kept. -/
def Follow.fresh (f : Follow) (st : FollowState) : Follow := { state := st, ctr := f.ctr }

/-- R142, R154: the state that the follow enable gives. -/
def Store.followStart (st : Store) : FollowState := if st.followEnable then .seek else .off

/-- R143: an edit commit of the system record at the follow unit; `was` is the store before it. -/
def State.followEdited (s : State) (was : Store) : State :=
  let old := s.follow.state
  let s' :=
    if s.store.followEnable then
      if old = .off ∨ was.followLink ≠ s.store.followLink then
        (s.onFollow fun f => f.fresh .seek).dropCorrection
      else s
    else if old ≠ .off then
      let s := s.onFollow fun f => f.fresh .off
      s.writeTempo s.beat.tempo
    else s
  if old = .locked ∧ s'.follow.state ≠ .locked then s'.followReport else s'

end Sys2Proof.Machine
end

