-- ==== Sys2Proof/Machine/LinkOps.lean ====
section
/-! DEFINITION. Links that come, go and change (R2 to R6, R11 to R15, R82, R83), and presence (R17). -/
namespace Sys2Proof.Machine

/-- R11, R76: a link that has become an UP MODULE link while the part is READY: its SILENCE flag is set, and a
late-join window opens when the live copy holds recall entries for it. -/
def State.joinModule (s : State) (l : Nat) : State :=
  let s := s.onLink l fun k => { k with silenceFlag := true }
  if (s.recallsFor l).isEmpty then s else s.openWindow l

/-- R3, R11: a valid frame on link `l`: the silence timer restarts, and a DOWN link comes UP. -/
def State.seen (s : State) (l : Nat) : State :=
  if (s.link l).up then s.onLink l fun k => { k with silence := some (s.now + Config.silenceTime) }
  else
    let s := s.onLink l fun k => { k with up := true, silence := some (s.now + Config.silenceTime) }
    let s := s.raise (.linkUp l)
    if (s.link l).role == .module && s.part == .ready then s.joinModule l else s

/-- R5, R6: an accepted frame: a PRESENCE frame is recorded, and any other offered to the receive FIFO. -/
def State.accept (s : State) (l : Nat) (f : Frame) (arrival : Nat) : State :=
  let s := s.count l fun c => { c with accepted := bump c.accepted 1 }
  match f with
  | .presence role part => s.onLink l fun k => { k with farEnd := some (role, part) }
  | _ =>
    if (s.link l).fifo.length < Config.fifoSize then
      s.onLink l fun k => { k with fifo := k.fifo ++ [{ frame := f, arrival := arrival }] }
    else s.count l fun c => { c with overflows := bump c.overflows 1 }

/-- R2 to R5: a run of bytes is judged. -/
def State.judge (s : State) (l : Nat) (r : Run) : State :=
  if !Run.valid r then s.count l fun c => { c with bad := bump c.bad 1 }
  else
    let s := s.seen l
    match Run.frame r with
    | none => s.count l fun c => { c with malformed := bump c.malformed 1 }
    | some f => s.accept l f r.arrival

/-- R13, R58, R59: the note tracker's part of a link's leaving its role, without the report of R46. -/
def State.leaveTracker (s : State) (l : Nat) : State :=
  match (s.link l).role with
  | .source => s.loseSource l
  | .module => s.loseModule l
  | _ => s

/-- R13, R182: every edit slot owned by the link becomes FREE. -/
def State.freeSlotsOf (s : State) (l : Nat) : State :=
  { s with mgmt := { s.mgmt with
      slots := bankMap (fun o => o.bind fun (x : Slot) => if x.owner = l then none else some x) s.mgmt.slots } }

/-- R81: a report made when the window was closed from SENDING or SETTLING. -/
def State.reportIf (s : State) (c : Bool) (l : Nat) : State := if c then s.windowReport l else s

/-- R12, R13, R82: link `l` is lost. The loss is taken whole before the reports it gives (log entry 16). -/
def State.loseLink (s : State) (l : Nat) : State :=
  let before := s.tracker.table.length
  let awaited := Window.awaited (s.link l).window
  let s := s.onLink l fun k =>
    { k with
      up := false, silence := none, fifo := []
      ctr := { k.ctr with losses := bump k.ctr.losses 1, flushed := bump k.ctr.flushed k.fifo.length } }
  let s := s.raise (.linkLost l)
  let s := s.leaveTracker l
  let s := s.onLink l Link.clearSection
  let s := s.freeSlotsOf l
  (s.reportIfShorter before).reportIf awaited l

/-- R14, R83: a committed link record gives link `l` another role. -/
def State.changeRole (s : State) (l : Nat) (role : Role) : State :=
  if (s.link l).role = role then s
  else
    let before := s.tracker.table.length
    let awaited := (s.link l).role == .module && Window.awaited (s.link l).window
    let s := s.leaveTracker l
    let s := if (s.link l).up then s.onLink l Link.leaveRole else s
    let s := s.onLink l fun k => { k with role := role }
    let s := if role == .module && (s.link l).up then s.joinModule l else s
    (s.reportIfShorter before).reportIf awaited l

/-- R17: the PRESENCE frame of a link is sent at once. -/
def State.sendPresence (s : State) (l : Nat) : State :=
  (s.startFrame l (.presence (s.link l).role s.part) false).count l fun c =>
    { c with presenceSent := bump c.presenceSent 1 }

/-- R19: at READY a link takes the role and rights its record gives, and an UP MODULE link its SILENCE flag. -/
def Link.loaded (k : Link) (r : Record) : Link :=
  { k with
    role := Role.ofCode (u8At r 0), rights := Rights.ofCode (u8At r 1)
    silenceFlag := k.silenceFlag || (k.up && Role.ofCode (u8At r 0) == .module) }

/-- R188, R19, R142, R167, R171, R172: with the store settled, the part becomes READY; a failed load raises
IMAGE; the start-up commit follows (R104). -/
def State.becomeReady (s : State) (store : Store) (reason : ImageReason) : State :=
  let s := { s with part := .ready, store := store }
  let s := s.onLinks fun l k => k.loaded (store.get .link l)
  let s := { s with
    follow := s.follow.fresh store.followStart
    pedals := Vector.replicate 4 (Pedal.fresh s.now)
    foots := Vector.replicate 4 {}
    events := []
    mgmt := { s.mgmt with lastLoad := if reason == ImageReason.none then .ok else .failed } }
  let s := if reason == ImageReason.none then s else s.raise (.image false .failed reason)
  s.startUp

/-- R188: what becomes of the image read: the store and the reason of a failure. DESIGN CHOICE (log entry 48): the
sum is tested first, so that an image with a wrong sum and an invalid record fails with BAD_SUM. -/
def judgeImage (b : List Byte) : Store × ImageReason :=
  if !imageSumOk b then (Store.defaults, .badSum)
  else if !(Store.ofImage b).allValid then (Store.defaults, .badRecord)
  else (Store.ofImage b, .none)

end Sys2Proof.Machine
end

