-- ==== Sys2Proof/Machine/PedalOps.lean ====
section
/-! DEFINITION. The pedal interface (R167 to R175). -/
namespace Sys2Proof.Machine

/-- Pedal `p`. -/
def State.pedal (s : State) (p : Nat) : Pedal := bankGet s.pedals p {}

/-- Pedal `p` changed. -/
def State.onPedal (s : State) (p : Nat) (f : Pedal → Pedal) : State :=
  { s with pedals := bankSet s.pedals p (f (s.pedal p)) }

/-- Footswitch `i`. -/
def State.foot (s : State) (i : Nat) : Foot := bankGet s.foots i {}

/-- Footswitch `i` changed. -/
def State.onFoot (s : State) (i : Nat) (f : Foot → Foot) : State :=
  { s with foots := bankSet s.foots i (f (s.foot i)) }

/-! ### The event list (R171) -/

/-- R171: the two events are from one pedal or one footswitch. -/
def PedalEvent.sameOrigin : PedalEvent → PedalEvent → Bool
  | .control p .., .control p' .. => p == p'
  | .hold f .., .hold f' .. => f == f'
  | _, _ => false

/-- R171: an event joins the list, taking the place of a waiting one from the same pedal or footswitch. -/
def joinEvent (e : PedalEvent) : List PedalEvent → List PedalEvent
  | [] => [e]
  | x :: r => if x.sameOrigin e then e :: r else x :: joinEvent e r

/-- R171: an event joins the event list. -/
def State.joinEvent (s : State) (e : PedalEvent) : State := { s with events := Machine.joinEvent e s.events }

/-! ### Pedals -/

/-- R167: the average, once 8 samples are held: floor of the sum ÷ 8. -/
def Pedal.average (p : Pedal) : Option Nat := if p.history.length = 8 then some (sumList p.history / 8) else none

/-- R167: samples join the history, the oldest leaving it once 8 are held, and count toward the next
evaluation. Of more samples than it lacks, the latest are taken: the others are held already (log entry 18). -/
def Pedal.sampled (p : Pedal) (samples : List Nat) : Pedal :=
  let new := samples.drop (samples.length - (Config.samplesHeld - p.phase))
  let h := p.history ++ new
  { p with history := h.drop (h.length - Config.samplesHeld), phase := p.phase + new.length }

/-- R1, R168: (average − lo) × 1023 / (hi − lo), rounded and limited to 0 to 1023. -/
def scalePedal (avg lo hi : Nat) : Nat :=
  (limitInt 0 1023 ((2 * (((avg : Int) - lo) * 1023) + ((hi : Int) - lo)) / (2 * ((hi : Int) - lo)))).toNat

/-- R168: the value of a pedal record for an average. -/
def Record.pedalValue (r : Record) (avg : Nat) : Nat :=
  let v := scalePedal avg (u16At r 3) (u16At r 5)
  if Record.flag r 0 1 then 1023 - v else v

/-- R169: a value makes an event. -/
def sendsValue (last : Option Nat) (v h : Nat) : Bool :=
  match last with
  | none => true
  | some x => decide (h ≤ absDiff v x) || ((v == 0 || v == 1023) && v != x)

/-- R168, R169: the value of a PRESENT pedal below 1016 is judged. -/
def State.judgePedal (s : State) (p avg : Nat) : State :=
  let r := s.store.get .pedal p
  let v := Record.pedalValue r avg
  if sendsValue (s.pedal p).last v (u8At r 7) then
    (s.onPedal p fun x => { x with last := some v }).joinEvent (.control p (u8At r 1) (u8At r 2) v)
  else s

/-- A run of evaluations, stopping at 8 (R170). -/
def longer (n : Nat) : Nat := if n < 8 then n + 1 else 8

/-- R168 to R170: an evaluation whose average is 1016 or more. -/
def State.evaluateHigh (s : State) (p : Nat) : State :=
  let s := s.onPedal p fun x => { x with highRun := longer x.highRun, lowRun := 0 }
  if !(s.pedal p).absent && (s.pedal p).highRun == 8 then
    (s.onPedal p fun x => { x with absent := true }).raise (.pedalAbsent p true)
  else s

/-- R168 to R170: an evaluation whose average is below 1016. -/
def State.evaluateLow (s : State) (p avg : Nat) : State :=
  let s := s.onPedal p fun x => { x with lowRun := longer x.lowRun, highRun := 0 }
  if (s.pedal p).absent then
    if (s.pedal p).lowRun == 8 then
      ((s.onPedal p fun x => { x with absent := false, last := none }).raise (.pedalAbsent p false)).judgePedal p avg
    else s
  else s.judgePedal p avg

/-- R167: an enabled pedal is sampled, while the part is READY. -/
def State.pedalOn (s : State) (p : Nat) : Bool := s.part == .ready && Record.flag (s.store.get .pedal p) 0 0

/-- R168 to R170: a pedal is evaluated on the average of the 8 samples held. -/
def State.evaluate (s : State) (p : Nat) : State :=
  match (s.pedal p).average with
  | none => s
  | some avg => if 1016 ≤ avg then s.evaluateHigh p else s.evaluateLow p avg

/-- R167: samples of an enabled pedal, the last one taken at an instant, join its history; the eighth since the
evaluation before brings the next evaluation. -/
def State.evaluatePedal (s : State) (p instant : Nat) (samples : List Nat) : State :=
  if s.pedalOn p then
    let s := s.onPedal p fun x => { x.sampled samples with next := max x.next instant + Config.sampleTime }
    if (s.pedal p).phase < Config.samplesHeld then s
    else (s.onPedal p fun x => { x with phase := 0 }).evaluate p
  else s

/-- R167: a sample of an enabled pedal that no command brings, but for the eighth, joins the history as a free
value of the ADC's range (log entry 18). -/
def State.sampleAlone (s : State) (p : Nat) : State :=
  s.draw.onPedal p fun x =>
    { x.sampled [Config.adcSample s.drawn p % 1024] with next := x.next + Config.sampleTime }

/-! ### Footswitches -/

/-- R173: a switch request of a footswitch, with its record's gate and fallback bars. -/
def State.footRequest (s : State) (r : Record) (a : Ask) : State :=
  (s.request a (Gate.ofCode (u8At r 3)) (u8At r 4) .footswitch).2

/-- R173: what an accepted press hands on. -/
def State.pressAction (s : State) (i : Nat) : State :=
  let r := s.store.get .footswitch i
  match Record.footFunction r with
  | .none => s
  | .nextScene => s.footRequest r .nextScene
  | .prevScene => s.footRequest r .prevScene
  | .nextSong => s.footRequest r .nextSong
  | .prevSong => s.footRequest r .prevSong
  | .tap => s.tap
  | .startStop => s.startStop
  | .overlay => s.engage (u8At r 3)
  | .overlayLatch => s.toggle (u8At r 3)
  | .hold => s.joinEvent (.hold i (u8At r 3) (u8At r 4) 1)
  | .panic => s.onFoot i fun x => { x with timer := some (s.now + Config.panicTime) }

/-- R173, R175: what an accepted release hands on, by the function of a record. -/
def State.releaseAction (s : State) (i : Nat) (r : Record) : State :=
  match Record.footFunction r with
  | .overlay => s.disengage (u8At r 3)
  | .hold => s.joinEvent (.hold i (u8At r 3) (u8At r 4) 0)
  | .panic => s.onFoot i fun x => { x with timer := none }
  | _ => s

/-- R172, R173: a press is accepted. -/
def State.press (s : State) (i : Nat) : State :=
  (s.onFoot i fun x => { x with pressed := true, run := 0 }).pressAction i

/-- R172, R173: a release is accepted. -/
def State.lift (s : State) (i : Nat) : State :=
  (s.onFoot i fun x => { x with pressed := false, run := 0 }).releaseAction i (s.store.get .footswitch i)

/-- R172: one sample of a footswitch, at a level. The first one since READY sets the accepted state directly. -/
def State.sample (s : State) (i : Nat) (high : Bool) : State :=
  let r := s.store.get .footswitch i
  let meaning := high == Record.highPressed r
  let first := (s.foot i).level.isNone
  let s := s.onFoot i fun x => { x with level := some high }
  if first then s.onFoot i fun x => { x with pressed := meaning, run := 0 }
  else if meaning = (s.foot i).pressed then s.onFoot i fun x => { x with run := 0 }
  else if (s.foot i).run + 1 < u8At r 2 then s.onFoot i fun x => { x with run := x.run + 1 }
  else if meaning then s.press i else s.lift i

/-- R175: an edit commit of a footswitch record; `old` is the record before it. -/
def State.footEdited (s : State) (i : Nat) (old : Record) : State :=
  let s := if (s.foot i).pressed then s.releaseAction i old else s
  let down := Record.highPressed (s.store.get .footswitch i)
  s.onFoot i fun x =>
    { x with
      run := 0
      pressed := match x.level with
        | some high => high == down
        | none => x.pressed }

end Sys2Proof.Machine
end

