-- ==== Sys2Proof/Machine/Mgmt.lean ====
section
/-! DEFINITION. The management unit's operations: the judging of a request and its reply (R9, R177, R178),
edit slots and edit commits (R182 to R184), the image (R189), RESTART (R190) and power-on (R188). -/
namespace Sys2Proof.Machine

/-! ### Requests and replies -/

/-- What a request is answered with: a status and the data after it. -/
structure Answer where
  status : Status
  data : List Byte := []
deriving DecidableEq, Repr

/-- R177: a reply is built, counted, and offered to the output queue of the link the request came from. -/
def State.reply (s : State) (l : Nat) (code tag : Byte) (a : Answer) : State :=
  (s.countMgmt fun c => { c with answered := bump c.answered 1 }).placeReply l
    (.mgmtReply code tag (byte (Status.code a.status)) a.data)

/-- R178: a byte that a refused request names, or a free value where its argument is missing. -/
def State.named (s : State) (b : Option Byte) : Byte × State :=
  match b with
  | some b => (b, s)
  | none => (Config.unnamedByte s.drawn, s.draw)

/-- R178: the fault record takes the fault, with the FAULT notice, or counts one more. -/
def State.recordFault (s : State) (f : FaultRecord) : State :=
  match s.mgmt.fault with
  | none => { s with mgmt := { s.mgmt with fault := some f, later := 0 } }.raise (.fault f)
  | some _ => { s with mgmt := { s.mgmt with later := if s.mgmt.later < 255 then s.mgmt.later + 1 else 255 } }

/-- R178: a request refused for its rights, once it is answered: counted, and recorded with the table and index
it names. -/
def State.deny (s : State) (l : Nat) (code : Byte) (table index : Option Byte) : State :=
  let s := s.countMgmt fun c => { c with denied := bump c.denied 1 }
  let (t, s) := s.named table
  let (i, s) := s.named index
  s.recordFault { link := l, code := code, table := t, index := i }

/-- What R177 asks of a request before its own rules: the rights it needs, whether its code and argument length
are right, whether it is served while LOADING, and the table and index it names for R178. -/
structure Terms where
  need : Rights
  form : Bool
  loading : Bool
  table : Option Byte
  index : Option Byte
deriving DecidableEq, Repr

/-- R7, R9, R177: a delivered MGMT_REQ: ignored under NONE rights; else DENIED, BAD_REQUEST or BUSY, or else
the request's own work, and in each case exactly one reply. -/
def State.serve (s : State) (l : Nat) (code tag : Byte) (args : List Byte) (t : Terms)
    (work : State → Answer × State) : State :=
  let s := s.grant l (.mgmtReq code tag args)
  let rights := (s.link l).rights
  if rights = .none then s.count l fun c => { c with ignored := bump c.ignored 1 }
  else if Rights.code rights < Rights.code t.need then
    (s.reply l code tag { status := .denied }).deny l code t.table t.index
  else if !t.form then s.reply l code tag { status := .badRequest }
  else if s.part == .loading && !t.loading then s.reply l code tag { status := .busy }
  else
    let (a, s) := work s
    s.reply l code tag a

/-- R177, R178: the terms of a COMMAND. -/
def commandTerms (cmd : Nat) (need : Rights) (form : Bool) : Terms :=
  { need := need, form := form, loading := false, table := some 255, index := some (byte cmd) }

/-- R177, R185: a COMMAND request with its command code and arguments. -/
def State.command (s : State) (l : Nat) (tag : Byte) (cmd : Nat) (args : List Byte) (need : Rights)
    (len : Nat) (work : State → Answer × State) : State :=
  s.serve l 8 tag (byte cmd :: args) (commandTerms cmd need (args.length == len)) work

/-- An answer OK with no data, after a block has taken the work. -/
def done (s : State) : Answer × State := ({ status := .ok }, s)

/-- An answer that leaves the state as it stands. -/
def refusal (st : Status) (s : State) : Answer × State := ({ status := st }, s)

/-! ### Edit slots -/

/-- Edit slot `n`. -/
def State.slot (s : State) (n : Nat) : Option Slot := bankGet s.mgmt.slots n none

/-- Edit slot `n` replaced. -/
def State.setSlot (s : State) (n : Nat) (x : Option Slot) : State :=
  { s with mgmt := { s.mgmt with slots := bankSet s.mgmt.slots n x } }

/-- R182: the lowest-numbered FREE slot. -/
def State.freeSlot (s : State) : Option Nat := (List.range 4).find? fun n => (s.slot n).isNone

/-- R182: the terms of an edit-slot request. -/
def State.slotTerms (s : State) (form : Bool) (args : List Byte) : Terms :=
  { need := .full, form := form, loading := false,
    table := args.head?.map fun n => match s.slot n.toNat with
      | some x => byte (Table.code x.table)
      | none => 255
    index := args.head?.map fun n => match s.slot n.toNat with
      | some x => byte x.index
      | none => 255 }

/-- R182: work on a slot that the link owns: RANGE for a number above 3, NOT_OWNER for a slot that is FREE or
another link's. -/
def State.withSlot (s : State) (l n : Nat) (f : Slot → Answer × State) : Answer × State :=
  if 3 < n then refusal .range s
  else
    match s.slot n with
    | some x => if x.owner = l then f x else refusal .notOwner s
    | none => refusal .notOwner s

/-- R182: the table and index that a request names, when they name a record. -/
def namedRecord (table index : Nat) : Option Table :=
  match Table.ofCode table with
  | some t => if index < Table.size t then some t else none
  | none => none

/-- R182: EDIT_OPEN. -/
def State.openSlot (s : State) (l : Nat) (args : List Byte) : Answer × State :=
  match namedRecord (u8At args 0) (u8At args 1) with
  | none => refusal .range s
  | some t =>
    match s.freeSlot with
    | none => refusal .noSlot s
    | some n =>
      let r := s.store.get t (u8At args 1)
      let g := Record.gen t r
      ({ status := .ok, data := byte n :: be16 g },
        s.setSlot n (some { owner := l, table := t, index := u8At args 1, image := r, gen := g,
                            expires := s.now + Config.slotTime }))

/-- R182: EDIT_PUT. -/
def State.putSlot (s : State) (l : Nat) (args : List Byte) : Answer × State :=
  let n := u8At args 0
  let off := u16At args 1
  let new := args.drop 3
  s.withSlot l n fun x =>
    if Table.length x.table < off + new.length then refusal .range s
    else done (s.setSlot n (some { x with image := putBytes x.image off new, expires := s.now + Config.slotTime }))

/-- R182: EDIT_ABANDON. -/
def State.abandonSlot (s : State) (l : Nat) (args : List Byte) : Answer × State :=
  s.withSlot l (u8At args 0) fun _ => done (s.setSlot (u8At args 0) none)

/-- R101, R102: a scene record has been committed: the live-differs flag is set when it is the live one. -/
def State.sceneEdited (s : State) (i : Nat) : State :=
  match s.switch.live.ident with
  | some x => if x.record = i then { s with switch := { s.switch with differs := true } } else s
  | none => s

/-- R14, R15, R78: a link record has been committed. -/
def State.linkEdited (s : State) (l : Nat) : State :=
  let r := s.store.get .link l
  let s := s.changeRole l (Role.ofCode (u8At r 0))
  let s := s.onLink l fun k => { k with rights := Rights.ofCode (u8At r 1) }
  s.endSettling l

/-- R98, R123, R143: the system record has been committed; `was` is the store before it. The set length's work comes
first, then the follow unit's with its report (log entry 45). -/
def State.systemEdited (s : State) (was : Store) : State :=
  let s := if s.store.setLength = was.setLength then s else s.setLengthChanged s.store.setLength
  s.followEdited was

/-- R184: the effects of a record committed into the store; `was` is the store before it. -/
def State.edited (s : State) (was : Store) (t : Table) (i : Nat) : State :=
  match t with
  | .scene => s.sceneEdited i
  | .song => s
  | .link => s.linkEdited i
  | .pedal => s.onPedal i fun _ => Pedal.fresh s.now
  | .footswitch => s.footEdited i (was.get .footswitch i)
  | .system => s.systemEdited was

/-- R183: the store as it would stand after a commit of a slot. -/
def Store.committed (st : Store) (x : Slot) : Store :=
  st.set x.table x.index
    (Record.withGen x.table x.image ((Record.gen x.table (st.get x.table x.index) + 1) % 65536))

/-- R183: EDIT_COMMIT of an owned slot. -/
def State.commitSlot (s : State) (l : Nat) (args : List Byte) : Answer × State :=
  let n := u8At args 0
  s.withSlot l n fun x =>
    let r := s.store.get x.table x.index
    let g := Record.gen x.table r
    let st := s.store.committed x
    if g ≠ x.gen ∨ g ≠ u16At args 1 then
      ({ status := .stale, data := be16 g ++ r.take 16 }, s.setSlot n none)
    else
      match st.check x.table x.index with
      | some off => ({ status := .invalid, data := be16 off }, s.setSlot n none)
      | none =>
        if s.mgmt.save.isSome then
          ({ status := .busy }, s.setSlot n (some { x with expires := s.now + Config.slotTime }))
        else
          ({ status := .ok, data := be16 ((g + 1) % 65536) },
            { s.setSlot n none with store := st }.edited s.store x.table x.index)

/-! ### Reading the store (R179, R180) -/

/-- R179, R191: IDENTIFY. -/
def identity (leaf : Nat) : Answer :=
  match leaf with
  | 0 => { status := .ok, data := [2, 7] ++ be16 1248 }
  | 1 => { status := .ok, data := [1, 15] }
  | 2 => { status := .ok, data := [1, 12, 2, 64, 3, 48, 4, 4, 5, 4, 6, 128, 7, 64, 8, 32, 9, 4, 10, 4] }
  | _ => { status := .range }

/-- R180: READ. -/
def State.readRecord (s : State) (args : List Byte) : Answer :=
  let i := u8At args 1
  let off := u16At args 2
  let n := u8At args 4
  if n = 0 ∨ 16 < n then { status := .range }
  else
    match namedRecord (u8At args 0) i with
    | none => { status := .range }
    | some t =>
      if Table.length t < off + n then { status := .range }
      else
        let r := s.store.get t i
        { status := .ok, data := be16 (Record.gen t r) ++ Record.slice r off n }

/-! ### Commands that act in the management unit, and RESTART -/

/-- R185: CLEAR_STATS sets every 16-bit event counter of the part to 0. -/
def State.clearStats (s : State) : State :=
  let s := s.onLinks fun _ k => { k with ctr := {}, out := {} }
  { s with
    router := {}
    tracker := { s.tracker with ctr := {} }
    switch := { s.switch with ctr := {} }
    beat := { s.beat with ctr := {} }
    follow := { s.follow with ctr := {} }
    mgmt := { s.mgmt with ctr := {} } }

/-- R178: CLEAR_FAULT. -/
def State.clearFault (s : State) : State := { s with mgmt := { s.mgmt with fault := none, later := 0 } }

/-- R87: HISTOGRAM_CLEAR. -/
def State.clearHistograms (s : State) : State :=
  s.onLinks fun _ k => { k with bins := Vector.replicate 8 {}, late := none }

/-- R189: SAVE_IMAGE. -/
def State.beginSave (s : State) : Answer × State :=
  if s.mgmt.save.isSome then refusal .busy s
  else done { s with mgmt := { s.mgmt with save := some { image := s.store.image, expires := s.now + Config.saveTime } } }

/-- R189: a save ends, with IMAGE. -/
def State.endSave (s : State) (reason : ImageReason) : State :=
  let result : ImageResult := if reason == ImageReason.none then .ok else .failed
  { s with mgmt := { s.mgmt with save := none, lastSave := result } }.raise (.image true result reason)

/-- R141: the beat engine's start-up values, its counters kept; an active ramp ends early. -/
def State.restartBeat (s : State) : State := { s with beat := { ctr := s.endRamp.beat.ctr } }

/-- R61: the note tracker's start-up values, its counters kept. -/
def Tracker.restarted (t : Tracker) : Tracker := { ctr := t.ctr, nextCopy := t.nextCopy }

/-- R126: the switch controller's start-up values, its counters kept. -/
def Switch.restarted (w : Switch) : Switch := { ctr := w.ctr }

/-- R167, R174, R190: RESTART, from the panic to the start-up commit. -/
def State.restart (s : State) : State :=
  let s := s.panic
  let s := { s with engaged := [], tracker := s.tracker.restarted }
  let s := s.onLinks fun _ k => k.restartSection
  let s := { s with switch := s.switch.restarted }
  let s := s.restartBeat
  let s := { s with
    follow := s.follow.fresh s.store.followStart
    pedals := bankMap (fun (p : Pedal) => { p with last := none }) s.pedals
    foots := bankMap (fun (x : Foot) => { x with timer := none }) s.foots
    events := []
    mgmt := { s.mgmt with slots := Vector.replicate 4 none } }
  s.startUp

/-- R188, R189: power-on. The commands still waiting and the count of free values are the model's own and
stay. -/
def State.powerOn (s : State) : State := { State.reset with pending := s.pending, drawn := s.drawn }

end Sys2Proof.Machine
end

