-- ==== Sys2Proof/Machine/StatusPages.lean ====
section
/-! DEFINITION. The sections of STATUS (R181), item by item in the order of the rules that list them. The
widths are R181's; log entry 19 says what the model adds where R181 leaves an item's place or width open. -/
namespace Sys2Proof.Machine

/-- R181: an item of one byte. -/
def item1 (n : Nat) : List Byte := [byte n]

/-- R181: a single flag. -/
def itemFlag (b : Bool) : List Byte := [if b then 1 else 0]

/-- R181: an absent item reads as all ones in every byte of its width. -/
def itemOr {α : Type} (width : Nat) (f : α → List Byte) : Option α → List Byte
  | some a => f a
  | none => List.replicate width 255

/-- R181: a set of links takes two bytes, link n at bit n. -/
def linkSet (ls : List Nat) : List Byte :=
  be16 ((linkNumbers.map fun l => if ls.contains l then 2 ^ l else 0).foldl (· + ·) 0)

/-- R181: counters, two bytes each. -/
def counters (l : List Nat) : List Byte := l.flatMap be16

/-- R191: the code of a switch state. -/
def SwitchState.code : SwitchState → Nat
  | .idle => 0 | .armed => 1 | .recalling => 2

/-- R191: the code of a transport state. -/
def Transport.code : Transport → Nat
  | .stopped => 0 | .countIn => 1 | .running => 2

/-- A target's song and scene index. -/
def Target.items (t : Target) : List Byte := item1 t.song ++ item1 t.scene

/-- R125, R100, R34: the SWITCH section. The fallback bars of a request, and the record number of the live identity,
take one byte, and the bars counted two (log entry 19). With the live copy empty its name is reported as an absent item, as
its identity is (log entry 38). The engaged overlay list, which R100 and R34 both list, stands once (log entry
44). -/
def State.switchSection (s : State) : List Byte :=
  let w := s.switch
  let c := w.ctr
  item1 (SwitchState.code w.state) ++ w.position.items
    ++ itemOr 7 (fun (r : Request) => r.target.items ++ item1 (Gate.code r.gate) ++ item1 r.fallback ++ be16 r.count
        ++ item1 (Cause.code r.cause)) w.armed
    ++ itemOr 5 (fun (r : Request) => r.target.items ++ item1 (Gate.code r.gate) ++ item1 r.fallback
        ++ item1 (Cause.code r.cause)) w.queued
    ++ itemOr 3 (fun (x : Target × Cause) => x.1.items ++ item1 (Cause.code x.2)) w.recalling
    ++ linkSet w.waitSet
    ++ counters [c.taken, c.refused, c.superseded, c.cancelled, c.cuesSkipped, c.commits, c.fallbackCommits]
    ++ itemOr 5 (fun (i : Identity) => item1 i.song ++ item1 i.scene ++ item1 i.record ++ be16 i.gen) w.live.ident
    ++ itemOr 16 (fun _ => w.live.name) w.live.ident
    ++ itemFlag w.differs
    ++ item1 s.engaged.length ++ s.engaged.map byte

/-- R155: one set of click settings, the subdivision in one byte (log entry 19). -/
def Click.items (c : Click) : List Byte := c.accents.map byte ++ item1 c.subdivision ++ item1 c.level

/-- R140, R155: the TEMPO section. What both rules list (the transport with its START-pending flag, the beats
per bar) stands once, where R140 lists it (log entry 44). The step number k of a ramp takes two bytes, and the
count-in bars one (log entry 19). -/
def State.tempoSection (s : State) : List Byte :=
  let b := s.beat
  let c := b.ctr
  be16 b.tempo ++ be32 (inc b.tempo) ++ be32 b.applied ++ item1 b.pulse ++ item1 b.index ++ be16Int b.bar
    ++ item1 b.current ++ item1 b.pending ++ item1 (Transport.code b.transport) ++ itemFlag b.startPending
    ++ itemFlag b.ramp.isSome
    ++ itemOr 8 (fun (r : Ramp) => be16 r.start ++ be16 r.target ++ be16 r.steps ++ be16 r.step) b.ramp
    ++ be16 b.taps.length ++ itemFlag b.lastTap.isSome
    ++ counters [c.rampsBegun, c.rampsEnded, c.tapRestarts, c.tapsRefused, c.tempoRefused]
    ++ item1 b.countIn ++ itemFlag b.segueMark ++ b.inForce.items ++ b.handed.items

/-- R154: the FOLLOW section. DESIGN CHOICE (log entry 47): a last interval beyond the four bytes of its item is
shown modulo 2^32. -/
def State.followSection (s : State) : List Byte :=
  let f := s.follow
  let c := f.ctr
  itemFlag s.store.followEnable ++ item1 s.store.followLink ++ item1 (FollowState.code f.state)
    ++ itemFlag f.lastArrival.isSome ++ itemOr 4 be32 f.lastInterval ++ itemOr 2 be16 f.lastEstimate
    ++ be16 f.good ++ item1 f.outlierRun ++ itemOr 4 be32 f.limit
    ++ itemOr 1 (fun c => [byteInt c]) f.correction
    ++ counters [c.beats, c.outliers, c.locks, c.lockLosses, c.holdovers]

/-- R63: the copy records of the table. -/
def Tracker.copies (t : Tracker) : List Copy := t.table.flatMap (·.copies)

/-- R63, R181: the 416 hold flags, grouped by source. -/
def State.holdFlags (s : State) : List Byte :=
  packFlags 52 ((List.range 416).map fun a => s.tracker.holds.read a != 0)

/-- R63, R40: the HELD section. -/
def State.heldSection (s : State) : List Byte :=
  let t := s.tracker
  let c := t.ctr
  let r := s.router
  be16 t.table.length ++ be16 (t.table.countP fun e => e.state == .keyed) ++ be16 t.copies.length
    ++ be16 (t.copies.countP fun c => c.state == .pending)
    ++ s.holdFlags
    ++ counters [c.reStrikes, c.steals, c.refusedNotes, c.suppressed, c.refusedCopies, c.unmatchedReleases,
        c.unmatchedPressure]
    ++ itemFlag t.tableFull.isSome
    ++ counters [r.fanOut, r.transposeRange, r.unavailable, r.withoutCopies]

/-- R18, R88: the LINK section of a link. -/
def State.linkSection (s : State) (l : Nat) : List Byte :=
  let k := s.link l
  let c := k.ctr
  let o := k.out
  counters [c.accepted, c.bad, c.malformed, c.overflows, c.notRouted, c.ignored, c.flushed, c.losses, c.sent,
      c.presenceSent]
    ++ counters [o.overruns, o.refusedNotes, o.droppedCtl, o.droppedReplies, o.coalesced, o.withdrawals, o.opened,
      o.restarts]
    ++ itemFlag k.up ++ item1 (Role.code k.role) ++ item1 (Rights.code k.rights)
    ++ itemOr 2 (fun (x : Role × PartState) => item1 (Role.code x.1) ++ item1 (PartState.code x.2)) k.farEnd

/-- R87: the HISTOGRAM section of a link. -/
def State.histogramSection (s : State) (l : Nat) : List Byte :=
  let k := s.link l
  k.bins.toList.flatMap (fun b => be32 b.count) ++ packFlags 1 (k.bins.toList.map (·.saturated))
    ++ itemFlag s.counting ++ itemFlag (s.store.histMask l) ++ itemFlag k.late.isSome

/-- R176: the items of a pedal. -/
def State.pedalItems (s : State) (p : Nat) : List Byte :=
  let x := s.pedal p
  itemFlag (Record.flag (s.store.get .pedal p) 0 0) ++ itemFlag x.absent ++ itemOr 2 be16 x.average
    ++ itemOr 2 be16 x.last ++ item1 x.highRun ++ item1 x.lowRun

/-- R176: the items of a footswitch. Its run count takes one byte, as a run does (log entry 42). -/
def State.footItems (s : State) (i : Nat) : List Byte :=
  let x := s.foot i
  item1 (u8At (s.store.get .footswitch i) 0) ++ itemFlag x.pressed ++ item1 x.run ++ itemFlag x.timer.isSome

/-- R176: the PEDALS section. -/
def State.pedalsSection (s : State) : List Byte :=
  (List.range 4).flatMap s.pedalItems ++ (List.range 4).flatMap s.footItems ++ be16 s.events.length

/-- R181: the items of an edit slot: state, owner, record and remaining time. -/
def State.slotItems (s : State) (n : Nat) : List Byte :=
  itemFlag (s.slot n).isSome
    ++ itemOr 7 (fun (x : Slot) => item1 x.owner ++ item1 (Table.code x.table) ++ item1 x.index
        ++ be32 (x.expires - s.now)) (s.slot n)

/-- R181: the FAULT section. -/
def State.faultSection (s : State) : List Byte :=
  let m := s.mgmt
  itemOr 4 (fun (f : FaultRecord) => item1 f.link ++ [f.code, f.table, f.index]) m.fault ++ be16 m.later
    ++ itemFlag m.save.isSome ++ item1 (ImageResult.code m.lastLoad) ++ item1 (ImageResult.code m.lastSave)
    ++ (List.range 4).flatMap s.slotItems
    ++ counters [m.ctr.answered, m.ctr.denied, m.ctr.noticesDropped]

/-- R181: the bytes of a section; none for an unknown section or an index out of range. -/
def State.sectionBytes (s : State) (sect index : Nat) : Option (List Byte) :=
  if sect = 4 ∨ sect = 5 then
    if index < 12 then some (if sect = 4 then s.linkSection index else s.histogramSection index) else none
  else if index ≠ 0 then none
  else
    match sect with
    | 0 => some s.switchSection
    | 1 => some s.tempoSection
    | 2 => some s.followSection
    | 3 => some s.heldSection
    | 6 => some s.pedalsSection
    | 7 => some s.faultSection
    | _ => none

/-- R181: the pages of a section, 20 bytes each, the last one perhaps shorter. -/
def pageCount (b : List Byte) : Nat := (b.length + 19) / 20

/-- R181: STATUS. -/
def State.statusPage (s : State) (args : List Byte) : Answer :=
  match s.sectionBytes (u8At args 0) (u8At args 1) with
  | none => { status := .range }
  | some b =>
    let page := u8At args 2
    if page < pageCount b then
      { status := .ok, data := byte (pageCount b) :: (b.drop (20 * page)).take 20 }
    else { status := .range }

end Sys2Proof.Machine
end

