-- ==== Sys2Proof/Machine/Operands.lean ====
section
/-! DEFINITION. The forms of the requests' arguments (R177, R191): their lengths, the table and index they
name for a rights fault (R178), and the work that commands do with them (R39, R87, R124, R138 to R160). -/
namespace Sys2Proof.Machine

/-- The outcome of a command. -/
abbrev Result := Host.Outcome State Fault Refusal

/-- R177, R178: the terms of IDENTIFY and STATUS, served while LOADING; the fault names table 255. -/
def readingTerms (args : List Byte) (len : Nat) : Terms :=
  { need := .read, form := args.length == len, loading := true, table := some 255, index := args.head? }

/-- R177, R178: the terms of READ and EDIT_OPEN, which name a table and an index. -/
def recordTerms (need : Rights) (args : List Byte) (len : Nat) : Terms :=
  { need := need, form := args.length == len, loading := false, table := args[0]?, index := args[1]? }

/-- R191: EDIT_PUT carries a slot, an offset and 1 to 16 bytes. -/
def putForm (args : List Byte) : Bool := decide (4 ≤ args.length) && decide (args.length ≤ 19)

/-- R177, R178: the terms of an unknown request code, or of COMMAND with an unknown command code: judged
against COMMAND rights, and then a bad request. -/
def unknownTerms (code : Byte) (args : List Byte) : Terms :=
  { need := .command, form := false, loading := false,
    table := if code = 8 then some 255 else none
    index := if code = 8 then args.head? else none }

/-- R191: the request codes 1 to 8, and for COMMAND the command codes 1 to 20. -/
def knownCode (code : Byte) (args : List Byte) : Bool :=
  if code = 8 then decide (1 ≤ u8At args 0) && decide (u8At args 0 ≤ 20) && !args.isEmpty
  else decide (1 ≤ code.toNat) && decide (code.toNat ≤ 7)

/-- R191: the code of what the switch controller did with a request. -/
def disposition (s : State) : Nat := if s.switch.state = .recalling then 2 else 1

/-- R124: a switch request from a command: gate and fallback bars judged, then the switch controller's answer.
It is queued when the switch controller is RECALLING as it takes it, and armed otherwise. -/
def State.switchCommand (s : State) (a : Ask) (gate fallback : Nat) : Answer × State :=
  if 2 < gate ∨ 8 < fallback then refusal .range s
  else
    let (r, s') := s.request a (Gate.ofCode gate) fallback .command
    match r with
    | .ok t => ({ status := .ok, data := t.items ++ item1 (SwitchState.code s'.switch.state) ++ item1 (disposition s) }, s')
    | .error e => ({ status := e }, s')

/-- R124: SELECT; a song or scene index beyond the store is RANGE. -/
def State.selectCommand (s : State) (args : List Byte) : Answer × State :=
  if 47 < u8At args 0 ∨ 7 < u8At args 1 then refusal .range s
  else s.switchCommand (.select (u8At args 0) (u8At args 1)) (u8At args 2) (u8At args 3)

/-- R113: CANCEL_SWITCH, answered with what it removed. -/
def State.cancelCommand (s : State) : Answer × State :=
  let (what, s) := s.cancel
  ({ status := .ok, data := item1 what }, s)

/-- R39: ENGAGE_OVERLAY. -/
def State.engageCommand (s : State) (i : Nat) : Answer × State :=
  if 3 < i ∨ s.switch.live.overlays.length ≤ i then refusal .range s else done (s.engage i)

/-- R39: RELEASE_OVERLAY. -/
def State.releaseCommand (s : State) (i : Nat) : Answer × State :=
  if 3 < i then refusal .range s else done (s.disengage i)

/-- R160: the answer to START and STOP: the transport state and the START-pending flag. -/
def transportAnswer (s : State) : Answer × State :=
  ({ status := .ok, data := item1 (Transport.code s.beat.transport) ++ itemFlag s.beat.startPending }, s)

/-- R138: TAP. -/
def State.tapCommand (s : State) : Answer × State :=
  let s' := s.tap
  if s.follow.state = .off then
    ({ status := .ok, data := be16 s'.beat.tempo ++ item1 s'.beat.taps.length }, s')
  else ({ status := .following, data := be16 s'.beat.tempo }, s')

/-- R139: SET_TEMPO. -/
def State.tempoCommand (s : State) (t : Nat) : Answer × State :=
  if s.follow.state = .off then
    let s := s.endRamp.writeTempo (limitTempo t)
    ({ status := .ok, data := be16 s.beat.tempo }, s)
  else
    let s := s.countBeat fun c => { c with tempoRefused := bump c.tempoRefused 1 }
    ({ status := .following, data := be16 s.beat.tempo }, s)

/-- R87, R191: HISTOGRAM_ENABLE; a value other than 0 or 1 is RANGE. -/
def State.countingCommand (s : State) (v : Nat) : Answer × State :=
  if 1 < v then refusal .range s else done { s with counting := v == 1 }

end Sys2Proof.Machine
end

