-- ==== Sys2Proof/Machine/CommandCmds.lean ====
section
/-! DEFINITION. The meanings of the twenty commands of a COMMAND request (R185), with the command codes of R191,
the rights of R177 and the argument lengths of R191. The switch requests find the advances that fell due before them
taken (log entry 2), as their commit can stop the transport (R159). -/
namespace Sys2Proof.Machine

/-- SELECT (R108, R124). -/
def execSelect (l : Fin 12) (tag : Byte) (args : List Byte) (s : State) : Result :=
  .next (s.command l tag 1 args .command 4 (fun s => s.caughtUp.selectCommand args))

/-- NEXT_SCENE (R108, R124). -/
def execNextScene (l : Fin 12) (tag : Byte) (args : List Byte) (s : State) : Result :=
  .next (s.command l tag 2 args .command 2 (fun s => s.caughtUp.switchCommand .nextScene (u8At args 0) (u8At args 1)))

/-- PREV_SCENE (R108, R124). -/
def execPrevScene (l : Fin 12) (tag : Byte) (args : List Byte) (s : State) : Result :=
  .next (s.command l tag 3 args .command 2 (fun s => s.caughtUp.switchCommand .prevScene (u8At args 0) (u8At args 1)))

/-- NEXT_SONG (R108, R124). -/
def execNextSong (l : Fin 12) (tag : Byte) (args : List Byte) (s : State) : Result :=
  .next (s.command l tag 4 args .command 2 (fun s => s.caughtUp.switchCommand .nextSong (u8At args 0) (u8At args 1)))

/-- PREV_SONG (R108, R124). -/
def execPrevSong (l : Fin 12) (tag : Byte) (args : List Byte) (s : State) : Result :=
  .next (s.command l tag 5 args .command 2 (fun s => s.caughtUp.switchCommand .prevSong (u8At args 0) (u8At args 1)))

/-- APPLY (R108, R124). -/
def execApply (l : Fin 12) (tag : Byte) (args : List Byte) (s : State) : Result :=
  .next (s.command l tag 6 args .command 2 (fun s => s.caughtUp.switchCommand .apply (u8At args 0) (u8At args 1)))

/-- CANCEL_SWITCH (R113). -/
def execCancelSwitch (l : Fin 12) (tag : Byte) (args : List Byte) (s : State) : Result :=
  .next (s.command l tag 7 args .command 0 State.cancelCommand)

/-- ENGAGE_OVERLAY (R35, R39). -/
def execEngageOverlay (l : Fin 12) (tag : Byte) (args : List Byte) (s : State) : Result :=
  .next (s.command l tag 8 args .command 1 (fun s => s.engageCommand (u8At args 0)))

/-- RELEASE_OVERLAY (R36, R39). -/
def execReleaseOverlay (l : Fin 12) (tag : Byte) (args : List Byte) (s : State) : Result :=
  .next (s.command l tag 9 args .command 1 (fun s => s.releaseCommand (u8At args 0)))

/-- START (R157, R160), with the advances that fell due before it taken (log entry 2). -/
def execStart (l : Fin 12) (tag : Byte) (args : List Byte) (s : State) : Result :=
  .next (s.command l tag 10 args .command 0 (fun s => transportAnswer s.caughtUp.start))

/-- STOP (R159, R160), with the advances that fell due before it taken (log entry 2). -/
def execStop (l : Fin 12) (tag : Byte) (args : List Byte) (s : State) : Result :=
  .next (s.command l tag 11 args .command 0 (fun s => transportAnswer s.caughtUp.stop))

/-- TAP (R136 to R138): the pulse that R137 judges is the one held at the instant of the tap, the advances that
fell due before it taken (log entry 2). -/
def execTap (l : Fin 12) (tag : Byte) (args : List Byte) (s : State) : Result :=
  .next (s.command l tag 12 args .command 0 (fun s => s.caughtUp.tapCommand))

/-- SET_TEMPO (R139), with the advances that fell due before it taken: a ramp it ends has taken their steps (log
entry 2). -/
def execSetTempo (l : Fin 12) (tag : Byte) (args : List Byte) (s : State) : Result :=
  .next (s.command l tag 13 args .command 2 (fun s => s.caughtUp.tempoCommand (u16At args 0)))

/-- PANIC (R60, R185). -/
def execPanic (l : Fin 12) (tag : Byte) (args : List Byte) (s : State) : Result :=
  .next (s.command l tag 14 args .command 0 (fun s => done s.panic))

/-- HISTOGRAM_ENABLE (R87). -/
def execHistogramEnable (l : Fin 12) (tag : Byte) (args : List Byte) (s : State) : Result :=
  .next (s.command l tag 15 args .full 1 (fun s => s.countingCommand (u8At args 0)))

/-- HISTOGRAM_CLEAR (R87). -/
def execHistogramClear (l : Fin 12) (tag : Byte) (args : List Byte) (s : State) : Result :=
  .next (s.command l tag 16 args .full 0 (fun s => done s.clearHistograms))

/-- CLEAR_STATS (R185). -/
def execClearStats (l : Fin 12) (tag : Byte) (args : List Byte) (s : State) : Result :=
  .next (s.command l tag 17 args .full 0 (fun s => done s.clearStats))

/-- CLEAR_FAULT (R178, R185). -/
def execClearFault (l : Fin 12) (tag : Byte) (args : List Byte) (s : State) : Result :=
  .next (s.command l tag 18 args .full 0 (fun s => done s.clearFault))

/-- SAVE_IMAGE (R189). -/
def execSaveImage (l : Fin 12) (tag : Byte) (args : List Byte) (s : State) : Result :=
  .next (s.command l tag 19 args .full 0 State.beginSave)

/-- RESTART (R190). -/
def execRestart (l : Fin 12) (tag : Byte) (args : List Byte) (s : State) : Result :=
  .next (s.command l tag 20 args .full 0 (fun s => done s.restart))

end Sys2Proof.Machine
end

