-- ==== Sys2Proof/Machine/LinkCmds.lean ====
section
/-! DEFINITION. The meanings of the commands of the receive and the transmit side of a link (R2 to R17, R66,
R77 to R79, R86). Where the timebase moves on to a command's instant, the advances of the accumulator that fell due
before it are taken first (`State.runTo`; log entry 2). -/
namespace Sys2Proof.Machine

/-- FRAME_RECEIVED (R2 to R6, R11): judged when the gap is recognized, 20 µs after the arrival. -/
def execFrameReceived (l : Fin 12) (run : Run) (s : State) : Result :=
  .next ((s.runTo (run.arrival + Config.gap)).judge l run)

/-- SILENCE_TIMER_EXPIRY (R12, R13). -/
def execSilenceTimerExpiry (l : Fin 12) (s : State) : Result :=
  match (s.link l).up, (s.link l).silence with
  | true, some t => .next ((s.runTo t).loseLink l)
  | _, _ => .next s

/-- TRANSMIT_START (R16, R66, R75): the transmitter is free from `freeAt` on. -/
def execTransmitStart (l : Fin 12) (s : State) : Result :=
  if (s.link l).onLine.isNone && (s.link l).hasNext then
    .next ((s.runTo (s.link l).freeAt).transmit l)
  else .next s

/-- FRAME_TRANSMITTED (R16, R77): the frame on the line ends. -/
def execFrameTransmitted (l : Fin 12) (s : State) : Result :=
  match (s.link l).onLine with
  | some o =>
    let s := (s.runTo o.ends).onLink l fun k => { k with onLine := none }
    .next (if o.fromRecall then s.recallSent l else s)
  | none => .next s

/-- PRESENCE_TIMER_EXPIRY (R17). -/
def execPresenceTimerExpiry (l : Fin 12) (s : State) : Result :=
  if (s.link l).onLine.isNone then .next ((s.runTo (s.link l).presence).sendPresence l) else .next s

/-- RECALL_FEED (R77): a recall frame that waited for room is fed. -/
def execRecallFeed (l : Fin 12) (s : State) : Result := .next (s.feed l)

/-- SETTLE_TIMER_EXPIRY (R78, R81). -/
def execSettleTimerExpiry (l : Fin 12) (s : State) : Result :=
  if (s.link l).window.state = .settling then
    .next ((s.runTo ((s.link l).window.since + s.store.settleTime l)).endSettling l)
  else .next s

/-- DRAIN_MOVE (R79): deferred frames that waited for room move. -/
def execDrainMove (l : Fin 12) (s : State) : Result := .next (s.drain l)

/-- LATE_TIMER_EXPIRY (R86). -/
def execLateTimerExpiry (l : Fin 12) (s : State) : Result :=
  match (s.link l).late with
  | some t => .next ((s.runTo t).onLink l fun k => { k with late := none })
  | none => .next s

end Sys2Proof.Machine
end

