-- ==== Sys2Proof/Machine/PartCmds.lean ====
section
/-! DEFINITION. The meanings of power-on, of the image load and of the save (R188, R189). -/
namespace Sys2Proof.Machine

/-- POWER_ON (R19, R188). -/
def execPowerOn (s : State) : Result := .next s.powerOn

/-- IMAGE_LOAD_DONE (R188): the read completes, while LOADING and within its 300 ms. The transport is STOPPED until
READY (R141), so no advance falls due in the time that passes. -/
def execImageLoadDone (instant : Nat) (image : List Byte) (s : State) : Result :=
  if s.part == .loading && decide (s.now ≤ s.loadBy) && decide (instant ≤ s.loadBy) then
    let (store, reason) := judgeImage image
    .next ((s.advanceTo instant).becomeReady store reason)
  else .next s

/-- LOAD_TIMEOUT (R188). -/
def execLoadTimeout (s : State) : Result :=
  if s.part == .loading then .next ((s.advanceTo s.loadBy).becomeReady Store.defaults .noFlash) else .next s

/-- SAVE_DONE (R189): the readback is checked, while a save is in progress and within its 1,500 ms. -/
def execSaveDone (instant : Nat) (image : List Byte) (s : State) : Result :=
  match s.mgmt.save with
  | some v =>
    if s.now ≤ v.expires ∧ instant ≤ v.expires then
      .next ((s.runTo instant).endSave (if imageSumOk image then .none else .badSum))
    else .next s
  | none => .next s

/-- SAVE_TIMEOUT (R189). -/
def execSaveTimeout (s : State) : Result :=
  match s.mgmt.save with
  | some v => .next ((s.runTo v.expires).endSave .noFlash)
  | none => .next s

end Sys2Proof.Machine
end

