-- ==== Sys2Proof/Machine/PedalCmds.lean ====
section
/-! DEFINITION. The meanings of the events of the pedal interface (R167 to R174). -/
namespace Sys2Proof.Machine

/-- PEDAL_EVALUATION (R167 to R170): the samples since the evaluation before, the last one at the instant. -/
def execPedalEvaluation (p : Fin 4) (instant : Nat) (samples : List Nat) (s : State) : Result :=
  .next ((s.runTo instant).evaluatePedal p instant samples)

/-- R172: the accepted state of a footswitch can change to its opposite: the part is READY, and the first
sample has set the state. -/
def State.canChange (s : State) (f : Nat) (pressed : Bool) : Bool :=
  s.part == .ready && (s.foot f).level.isSome && (s.foot f).pressed != pressed

/-- FOOTSWITCH_PRESS (R172, R173): a press is accepted at its instant, the level being the pressed one. A TAP
reads the pulse held then (R137; log entry 2). -/
def execFootswitchPress (f : Fin 4) (instant : Nat) (s : State) : Result :=
  let s := s.runTo instant
  if s.canChange f true then
    .next ((s.onFoot f fun x => { x with level := some (Record.highPressed (s.store.get .footswitch f)) }).press f)
  else .next s

/-- FOOTSWITCH_RELEASE (R172, R173): a release is accepted at its instant. -/
def execFootswitchRelease (f : Fin 4) (instant : Nat) (s : State) : Result :=
  let s := s.runTo instant
  if s.canChange f false then
    .next ((s.onFoot f fun x => { x with level := some (!Record.highPressed (s.store.get .footswitch f)) }).lift f)
  else .next s

/-- PANIC_HOLD_TIMER_EXPIRY (R174). -/
def execPanicHoldTimerExpiry (f : Fin 4) (s : State) : Result :=
  match (s.foot f).timer with
  | some t => .next ((s.runTo t).onFoot f fun x => { x with timer := none }).panic
  | none => .next s

/-- FOOTSWITCH_SAMPLE (R172). -/
def execFootswitchSample (f : Fin 4) (instant : Nat) (high : Bool) (s : State) : Result :=
  let s := s.runTo instant
  if s.part == .ready then .next (s.sample f high) else .next s

end Sys2Proof.Machine
end

