-- ==== Sys2Proof/Machine/PerformanceCmds.lean ====
section
/-! DEFINITION. The meanings of the delivered performance and BEAT frames, and of a frame that no block takes
(R7, R8, R10). -/
namespace Sys2Proof.Machine

/-- R7, R8: a performance frame of link `l` is delivered: routed, or discarded and counted as not routed. -/
def State.deliver (s : State) (l : Nat) (f : Frame) (route : State → State) : Result :=
  if Frame.accepted f then
    let s := s.grant l f
    .next (if s.routes l then route s else s.notRouted l)
  else .fault .notAccepted

/-- NOTE_ON (R24 to R28, R48 to R52). -/
def execNoteOn (l : Fin 12) (ch key vel : Nat) (s : State) : Result :=
  s.deliver l (.noteOn ch key vel) fun s => s.routeNoteOn l ch key vel

/-- NOTE_OFF (R29, R53, R54). -/
def execNoteOff (l : Fin 12) (ch key vel : Nat) (s : State) : Result :=
  s.deliver l (.noteOff ch key vel) fun s => s.liftKey l ch key vel

/-- PRESSURE (R29 to R32, R57). -/
def execPressure (l : Fin 12) (ch key val : Nat) (s : State) : Result :=
  s.deliver l (.pressure ch key val) fun s =>
    if key = 255 then s.routeControl l ch (.pressure ch 255 val) else s.pressKey l ch key val

/-- R171: the waiting CONTROL event of a pedal. -/
def PedalEvent.isControl (ch num val : Nat) : PedalEvent → Bool
  | .control _ c n v => c == ch && n == num && v == val
  | .hold .. => false

/-- R171: the waiting HOLD event of a footswitch. -/
def PedalEvent.isHold (src ch state : Nat) : PedalEvent → Bool
  | .hold _ x c v => x == src && c == ch && v == state
  | .control .. => false

/-- R7, R171: an event of the pedal interface is delivered. There is none while LOADING. -/
def State.deliverPedal (s : State) (f : Frame) (same : PedalEvent → Bool) (route : State → State) : Result :=
  if Frame.accepted f then .next (if s.part == .ready then route (s.grantPedal same) else s)
  else .fault .notAccepted

/-- CONTROL (R30 to R32), from a link or a pedal. -/
def execControl (src : Fin 13) (ch num val : Nat) (s : State) : Result :=
  if src.val < 12 then s.deliver src (.control ch num val) fun s => s.routeControl src ch (.control ch num val)
  else
    s.deliverPedal (.control ch num val) (PedalEvent.isControl ch num val) fun s =>
      s.routeControl 12 ch (.control ch num val)

/-- BEND (R30 to R32). -/
def execBend (l : Fin 12) (ch val : Nat) (s : State) : Result :=
  s.deliver l (.bend ch val) fun s => s.routeControl l ch (.bend ch val)

/-- HOLD (R33, R44, R55, R56), from a link, whose number is its source, or from a footswitch. -/
def execHold (pos src : Fin 13) (ch state : Nat) (s : State) : Result :=
  if pos.val < 12 then
    if src = pos then s.deliver pos (.hold ch state) fun s => s.holdEvent src ch state else .fault .notAccepted
  else
    s.deliverPedal (.hold ch state) (PedalEvent.isHold src ch state) fun s => s.holdEvent src ch state

/-- BEAT (R10, R144 to R153): taken at the earliest when the receiver has seen the closing gap, 20 µs after the
arrival (R2, R144), and judged by the pulse that the accumulator holds then (log entry 2). -/
def execBeat (l : Fin 12) (arrival : Nat) (bar : Int) (beat bpb tempo : Nat) (s : State) : Result :=
  let f : Frame := .beat bar beat bpb tempo
  if Frame.accepted f then
    let s := (s.runTo (arrival + Config.gap)).grant l f
    .next (if s.follows l then s.beatFrame arrival else s.notRouted l)
  else .fault .notAccepted

/-- R5, R8 to R10: some block takes the frame. -/
def State.takes (s : State) (l : Nat) (f : Frame) : Bool :=
  match f with
  | .presence .. => true
  | .mgmtReq .. => true
  | .beat .. => s.follows l
  | f => Frame.routedKind f && s.routes l

/-- FRAME_NOT_ROUTED (R8, R10). -/
def execFrameNotRouted (l : Fin 12) (frame : Frame) (s : State) : Result :=
  if Frame.accepted frame then
    .next (if s.takes l frame then s else (s.grant l frame).notRouted l)
  else .fault .notAccepted

end Sys2Proof.Machine
end

