-- ==== Sys2Proof/Machine/RequestCmds.lean ====
section
/-! DEFINITION. The meanings of the management requests but COMMAND (R177 to R183). -/
namespace Sys2Proof.Machine

/-- IDENTIFY (R179). -/
def execIdentify (l : Fin 12) (tag : Byte) (args : List Byte) (s : State) : Result :=
  .next (s.serve l 1 tag args (readingTerms args 1) fun s => (identity (u8At args 0), s))

/-- READ (R180). -/
def execRead (l : Fin 12) (tag : Byte) (args : List Byte) (s : State) : Result :=
  .next (s.serve l 2 tag args (recordTerms .read args 5) fun s => (s.readRecord args, s))

/-- STATUS (R181): what it shows is read with the advances that fell due before it taken (R140; log entry 2). -/
def execStatus (l : Fin 12) (tag : Byte) (args : List Byte) (s : State) : Result :=
  .next (s.serve l 3 tag args (readingTerms args 3) fun s =>
    let s := s.caughtUp
    (s.statusPage args, s))

/-- EDIT_OPEN (R182). -/
def execEditOpen (l : Fin 12) (tag : Byte) (args : List Byte) (s : State) : Result :=
  .next (s.serve l 4 tag args (recordTerms .full args 2) fun s => s.openSlot l args)

/-- EDIT_PUT (R182). -/
def execEditPut (l : Fin 12) (tag : Byte) (args : List Byte) (s : State) : Result :=
  .next (s.serve l 5 tag args (s.slotTerms (putForm args) args) fun s => s.putSlot l args)

/-- EDIT_COMMIT (R183, R184). -/
def execEditCommit (l : Fin 12) (tag : Byte) (args : List Byte) (s : State) : Result :=
  .next (s.serve l 6 tag args (s.slotTerms (args.length == 3) args) fun s => s.commitSlot l args)

/-- EDIT_ABANDON (R182). -/
def execEditAbandon (l : Fin 12) (tag : Byte) (args : List Byte) (s : State) : Result :=
  .next (s.serve l 7 tag args (s.slotTerms (args.length == 1) args) fun s => s.abandonSlot l args)

/-- UNKNOWN_REQUEST_CODE (R177), and COMMAND with an unknown command code. A known code makes no such event. -/
def execUnknownRequestCode (l : Fin 12) (code tag : Byte) (args : List Byte) (s : State) : Result :=
  if knownCode code args then .next s
  else .next (s.serve l code tag args (unknownTerms code args) (refusal .badRequest))

end Sys2Proof.Machine
end

