-- ==== Sys2Proof/Machine/TimeCmds.lean ====
section
/-! DEFINITION. The meanings of the pulses, of the beat boundary and of the remaining timers (R50, R130, R131,
R149, R182). -/
namespace Sys2Proof.Machine

/-- FOLLOW_SILENCE_TIMER_EXPIRY (R149). -/
def execFollowSilenceTimerExpiry (s : State) : Result :=
  match s.follow.silentAt with
  | some t => .next (s.runTo t).followSilent
  | none => .next s

/-- TABLE_FULL_TIMER_EXPIRY (R50). -/
def execTableFullTimerExpiry (s : State) : Result :=
  match s.tracker.tableFull with
  | some t => .next ((s.runTo t).onTracker fun x => { x with tableFull := none })
  | none => .next s

/-- PULSE (R130, R161): the next advance of the accumulator, from a pulse below 239. -/
def execPulse (s : State) : Result :=
  if s.moving && decide (s.beat.pulse < 239) && decide (0 < s.toPulse.beat.owed) then .next s.toPulse.pulseEvent
  else .next s

/-- BEAT_BOUNDARY (R130, R131): the next advance of the accumulator, from pulse 239. -/
def execBeatBoundary (s : State) : Result :=
  if s.moving && decide (239 ≤ s.beat.pulse) && decide (0 < s.toPulse.beat.owed) then .next s.toPulse.wrapEvent
  else .next s

/-- EDIT_SLOT_TIMEOUT (R182). -/
def execEditSlotTimeout (slot : Fin 4) (s : State) : Result :=
  match s.slot slot with
  | some x => .next ((s.runTo x.expires).setSlot slot none)
  | none => .next s

end Sys2Proof.Machine
end

