-- ==== Sys2Proof/Machine/Dispatch.lean ====
section
/-! DEFINITION. One arm for each command: its effect on everything but the queue. -/
namespace Sys2Proof.Machine

def exec (i : Instr) (s : State) : Host.Outcome State Fault Refusal :=
  match i with
  | .powerOn => Sys2Proof.Machine.execPowerOn s
  | .imageLoadDone instant image => Sys2Proof.Machine.execImageLoadDone instant image s
  | .loadTimeout => Sys2Proof.Machine.execLoadTimeout s
  | .frameReceived l run => Sys2Proof.Machine.execFrameReceived l run s
  | .silenceTimerExpiry l => Sys2Proof.Machine.execSilenceTimerExpiry l s
  | .noteOn l ch key vel => Sys2Proof.Machine.execNoteOn l ch key vel s
  | .noteOff l ch key vel => Sys2Proof.Machine.execNoteOff l ch key vel s
  | .pressure l ch key val => Sys2Proof.Machine.execPressure l ch key val s
  | .control src ch num val => Sys2Proof.Machine.execControl src ch num val s
  | .bend l ch val => Sys2Proof.Machine.execBend l ch val s
  | .hold pos src ch state => Sys2Proof.Machine.execHold pos src ch state s
  | .beat l arrival bar beat bpb tempo => Sys2Proof.Machine.execBeat l arrival bar beat bpb tempo s
  | .followSilenceTimerExpiry => Sys2Proof.Machine.execFollowSilenceTimerExpiry s
  | .transmitStart l => Sys2Proof.Machine.execTransmitStart l s
  | .frameTransmitted l => Sys2Proof.Machine.execFrameTransmitted l s
  | .presenceTimerExpiry l => Sys2Proof.Machine.execPresenceTimerExpiry l s
  | .recallFeed l => Sys2Proof.Machine.execRecallFeed l s
  | .settleTimerExpiry l => Sys2Proof.Machine.execSettleTimerExpiry l s
  | .drainMove l => Sys2Proof.Machine.execDrainMove l s
  | .lateTimerExpiry l => Sys2Proof.Machine.execLateTimerExpiry l s
  | .tableFullTimerExpiry => Sys2Proof.Machine.execTableFullTimerExpiry s
  | .pulse => Sys2Proof.Machine.execPulse s
  | .beatBoundary => Sys2Proof.Machine.execBeatBoundary s
  | .pedalEvaluation p instant samples => Sys2Proof.Machine.execPedalEvaluation p instant samples s
  | .footswitchPress f instant => Sys2Proof.Machine.execFootswitchPress f instant s
  | .footswitchRelease f instant => Sys2Proof.Machine.execFootswitchRelease f instant s
  | .panicHoldTimerExpiry f => Sys2Proof.Machine.execPanicHoldTimerExpiry f s
  | .editSlotTimeout slot => Sys2Proof.Machine.execEditSlotTimeout slot s
  | .saveDone instant image => Sys2Proof.Machine.execSaveDone instant image s
  | .saveTimeout => Sys2Proof.Machine.execSaveTimeout s
  | .identify l tag args => Sys2Proof.Machine.execIdentify l tag args s
  | .read l tag args => Sys2Proof.Machine.execRead l tag args s
  | .status l tag args => Sys2Proof.Machine.execStatus l tag args s
  | .editOpen l tag args => Sys2Proof.Machine.execEditOpen l tag args s
  | .editPut l tag args => Sys2Proof.Machine.execEditPut l tag args s
  | .editAbandon l tag args => Sys2Proof.Machine.execEditAbandon l tag args s
  | .editCommit l tag args => Sys2Proof.Machine.execEditCommit l tag args s
  | .select l tag args => Sys2Proof.Machine.execSelect l tag args s
  | .nextScene l tag args => Sys2Proof.Machine.execNextScene l tag args s
  | .prevScene l tag args => Sys2Proof.Machine.execPrevScene l tag args s
  | .nextSong l tag args => Sys2Proof.Machine.execNextSong l tag args s
  | .prevSong l tag args => Sys2Proof.Machine.execPrevSong l tag args s
  | .apply l tag args => Sys2Proof.Machine.execApply l tag args s
  | .cancelSwitch l tag args => Sys2Proof.Machine.execCancelSwitch l tag args s
  | .engageOverlay l tag args => Sys2Proof.Machine.execEngageOverlay l tag args s
  | .releaseOverlay l tag args => Sys2Proof.Machine.execReleaseOverlay l tag args s
  | .start l tag args => Sys2Proof.Machine.execStart l tag args s
  | .stop l tag args => Sys2Proof.Machine.execStop l tag args s
  | .tap l tag args => Sys2Proof.Machine.execTap l tag args s
  | .setTempo l tag args => Sys2Proof.Machine.execSetTempo l tag args s
  | .panic l tag args => Sys2Proof.Machine.execPanic l tag args s
  | .histogramEnable l tag args => Sys2Proof.Machine.execHistogramEnable l tag args s
  | .histogramClear l tag args => Sys2Proof.Machine.execHistogramClear l tag args s
  | .clearStats l tag args => Sys2Proof.Machine.execClearStats l tag args s
  | .clearFault l tag args => Sys2Proof.Machine.execClearFault l tag args s
  | .saveImage l tag args => Sys2Proof.Machine.execSaveImage l tag args s
  | .restart l tag args => Sys2Proof.Machine.execRestart l tag args s
  | .frameNotRouted l frame => Sys2Proof.Machine.execFrameNotRouted l frame s
  | .unknownRequestCode l code tag args => Sys2Proof.Machine.execUnknownRequestCode l code tag args s
  | .footswitchSample f instant high => Sys2Proof.Machine.execFootswitchSample f instant high s

end Sys2Proof.Machine
end

