-- ==== Sys2Proof/Machine/Idle.lean ====
section
/-! DEFINITION. What the block does by itself when no command waits (log entries 1 and 3): an event that
stands at this instant (a timer that has expired, a pulse, a free transmitter, a waiting frame at the arbiter)
is put in the queue as its command; a pedal's sample (log entry 18) is taken; when none stands, one microsecond
passes. -/
namespace Sys2Proof.Machine

/-- A timer that has expired. -/
def expired (now : Nat) : Option Nat → Bool
  | some t => decide (t ≤ now)
  | none => false

/-- The commands for the events of link `l` that stand at this instant. A DRAINING window that a withdrawal has left
without a deferred frame closes by its DRAIN_MOVE (DESIGN CHOICE, log entry 50). -/
def State.dueLink (s : State) (l : Fin 12) : List Instr :=
  let k := s.link l
  let free := k.onLine.isNone && decide (k.freeAt ≤ s.now)
  (if k.up && expired s.now k.silence then [.silenceTimerExpiry l] else [])
    ++ (if expired s.now (k.onLine.map (·.ends)) then [.frameTransmitted l] else [])
    ++ (if free && k.hasNext then [.transmitStart l] else [])
    ++ (if free && decide (k.presence ≤ s.now) then [.presenceTimerExpiry l] else [])
    ++ (if k.feeds then [.recallFeed l] else [])
    ++ (if s.settled l then [.settleTimerExpiry l] else [])
    ++ (if k.window.state == .draining && (k.deferral.isEmpty || decide (k.queue.length < Config.queueSize))
        then [.drainMove l] else [])
    ++ (if expired s.now k.late then [.lateTimerExpiry l] else [])

/-- The row of a command code (R191, 11.6). -/
def commandRow (l : Fin 12) (tag : Byte) (cmd : Nat) (args : List Byte) : Option Instr :=
  match cmd with
  | 1 => some (.select l tag args) | 2 => some (.nextScene l tag args) | 3 => some (.prevScene l tag args)
  | 4 => some (.nextSong l tag args) | 5 => some (.prevSong l tag args) | 6 => some (.apply l tag args)
  | 7 => some (.cancelSwitch l tag args) | 8 => some (.engageOverlay l tag args)
  | 9 => some (.releaseOverlay l tag args) | 10 => some (.start l tag args) | 11 => some (.stop l tag args)
  | 12 => some (.tap l tag args) | 13 => some (.setTempo l tag args) | 14 => some (.panic l tag args)
  | 15 => some (.histogramEnable l tag args) | 16 => some (.histogramClear l tag args)
  | 17 => some (.clearStats l tag args) | 18 => some (.clearFault l tag args)
  | 19 => some (.saveImage l tag args) | 20 => some (.restart l tag args)
  | _ => none

/-- The row of a delivered request (R191). -/
def requestRow (l : Fin 12) (code tag : Byte) (args : List Byte) : Instr :=
  match code.toNat with
  | 1 => .identify l tag args | 2 => .read l tag args | 3 => .status l tag args | 4 => .editOpen l tag args
  | 5 => .editPut l tag args | 6 => .editCommit l tag args | 7 => .editAbandon l tag args
  | 8 =>
    match args with
    | cmd :: rest => (commandRow l tag cmd.toNat rest).getD (.unknownRequestCode l code tag args)
    | [] => .unknownRequestCode l code tag args
  | _ => .unknownRequestCode l code tag args

/-- R8 to R10: the command that delivers a received frame. -/
def State.deliveryOf (s : State) (l : Fin 12) (r : Received) : Instr :=
  if !s.takes l r.frame then .frameNotRouted l r.frame
  else
    match r.frame with
    | .noteOn ch key vel => .noteOn l ch key vel
    | .noteOff ch key vel => .noteOff l ch key vel
    | .pressure ch key val => .pressure l ch key val
    | .control ch num val => .control l.castSucc ch num val
    | .bend ch val => .bend l ch val
    | .hold ch state => .hold l.castSucc l.castSucc ch state
    | .beat bar beat bpb tempo => .beat l r.arrival bar beat bpb tempo
    | .mgmtReq code tag args => requestRow l code tag args
    | f => .frameNotRouted l f

/-- The command that delivers a pedal event. -/
def PedalEvent.delivery : PedalEvent → Instr
  | .control _ ch num val => .control 12 ch num val
  | .hold _ src ch state => .hold 12 (Fin.ofNat 13 src) ch state

/-- R7: what waits at a position of the arbiter, as the command that delivers it. -/
def State.waitingAt (s : State) (pos : Nat) : Option Instr :=
  if h : pos < 12 then (s.link pos).fifo.head?.map (s.deliveryOf ⟨pos, h⟩)
  else s.events.head?.map PedalEvent.delivery

/-- R7: the next grant: the first position with something waiting, from the one after the pointer. -/
def State.nextGrant (s : State) : Option Instr :=
  (List.range 13).findSome? fun i => s.waitingAt ((s.pointer + 1 + i) % 13)

/-- The link numbers as operands. -/
def linkIds : List (Fin 12) := [0, 1, 2, 3, 4, 5, 6, 7, 8, 9, 10, 11]

/-- The numbers of pedals, footswitches and edit slots as operands. -/
def fourIds : List (Fin 4) := [0, 1, 2, 3]

/-- R167: the enabled pedals whose next sample falls due, before their eighth and at it. -/
def State.samplesDue (s : State) (eighth : Bool) : List (Fin 4) :=
  fourIds.filter fun (p : Fin 4) =>
    s.pedalOn p && decide ((s.pedal p).next ≤ s.now) && (decide (7 ≤ (s.pedal p).phase) == eighth)

/-- R167: the evaluation that comes with an eighth sample, a free value (log entry 18). -/
def State.evaluationOf (s : State) (p : Fin 4) : Instr :=
  .pedalEvaluation p (s.pedal p).next [Config.adcSample s.drawn p % 1024]

/-- Every event that stands at this instant. -/
def State.due (s : State) : List Instr :=
  linkIds.flatMap s.dueLink
    ++ (if expired s.now s.tracker.tableFull then [.tableFullTimerExpiry] else [])
    ++ (if s.moving && decide (0 < s.beat.owed) then
          [if s.beat.pulse < 239 then .pulse else .beatBoundary] else [])
    ++ (if expired s.now s.follow.silentAt then [.followSilenceTimerExpiry] else [])
    ++ (fourIds.filter fun (f : Fin 4) => expired s.now (s.foot f).timer).map .panicHoldTimerExpiry
    ++ (fourIds.filter fun (n : Fin 4) => expired s.now ((s.slot n).map fun (x : Slot) => x.expires)).map .editSlotTimeout
    ++ (s.samplesDue true).map s.evaluationOf
    ++ (if s.part == .loading && decide (s.loadBy ≤ s.now) then [.loadTimeout] else [])
    ++ (if expired s.now (s.mgmt.save.map fun (v : Save) => v.expires) then [.saveTimeout] else [])
    ++ s.nextGrant.toList

/-- The step on an empty queue. A pedal's sample is taken first (log entry 18). Of several events at one instant
either may be taken first, so which one is a free value. -/
def State.idle (s : State) : State :=
  match s.samplesDue false with
  | p :: _ => s.sampleAlone p
  | [] =>
    match s.due with
    | [] => s.elapse 1
    | [c] => { s.draw with pending := [c] }
    | c :: d :: r =>
      let cs := c :: d :: r
      { s.draw with pending := [cs.getD (Config.choice s.drawn % cs.length) c] }

end Sys2Proof.Machine
end

