-- ==== Sys2Proof/Safety.lean ====
section
/-! DEFINITION. What counts as a sound state and a safe run, in the terms the statements use: the laws that
the reference states over the whole part, the whole list of its counters, and what a request asks for. -/
namespace Sys2Proof.Machine

/-! ### Capacities (00_scope.md, R6, R34, R41, R65, R67, R70, R76, R100, R120, R136, R167, R171) -/

/-- One link within its capacities. Its release set is in order, each pair in it of a channel and key, so that
4096 are the most. -/
structure Link.Within (k : Link) : Prop where
  fifo : k.fifo.length ≤ Config.fifoSize
  realTime : k.realTime.length ≤ Config.realTimeSize
  queue : k.queue.length ≤ Config.queueSize
  deferral : k.deferral.length ≤ Config.deferralSize
  todo : k.window.todo.length ≤ 16
  rising : k.release.rising = true
  pairs : ∀ p ∈ k.release, p.1 < 4096
  release : k.release.length ≤ 4096

/-- The number of the pedal or footswitch an event is from. -/
def PedalEvent.origin : PedalEvent → Nat
  | .control p .. => p
  | .hold f .. => f

/-- The live copy within the capacities of a scene (R91 to R93, R100). -/
structure Live.Within (live : Live) : Prop where
  zones : live.zones.length ≤ 16
  recalls : live.recalls.length ≤ 16
  overlays : live.overlays.length ≤ 4
  overlayZones : ∀ o ∈ live.overlays, o.zones.length ≤ 4

/-- Every collection within its capacity: those of the links, the held-note table with its copies, the wait set,
the live copy, the engaged overlay list (R34: at most 4, without duplicates and within the live scene's overlays),
the tap intervals, the samples of the pedals, and the event list (R171: at most 8, one event of each pedal and
footswitch). The edit slots, the links and the store's records cannot be more or fewer, by their types. -/
structure State.Within (s : State) : Prop where
  links : ∀ l : Fin 12, (s.link l).Within
  table : s.tracker.table.length ≤ Config.tableSize
  copies : ∀ e ∈ s.tracker.table, e.copies.length ≤ Config.fanOut
  waits : s.switch.waitSet.length ≤ 12
  live : s.switch.live.Within
  engagedSize : s.engaged.length ≤ 4
  engaged : s.engaged.Nodup
  overlays : ∀ i ∈ s.engaged, i < s.switch.live.overlays.length
  taps : s.beat.taps.length ≤ 4
  samples : ∀ p : Fin 4, (s.pedal p).history.length ≤ Config.samplesHeld ∧ (s.pedal p).phase < Config.samplesHeld
  eventsSize : s.events.length ≤ 8
  events : s.events.Pairwise fun a b => PedalEvent.sameOrigin a b = false
  origins : ∀ e ∈ s.events, e.origin < 4

/-! ### The held-note table (R41 to R44) -/

/-- The copy records of the table that name a destination address. -/
def Tracker.holders (t : Tracker) (a : Nat) : Nat :=
  t.copies.countP fun c => destAddr c.link c.ch c.key == a

/-- The zones a scene's copies can come from: its own and its overlays'. -/
def Live.allZones (live : Live) : List Zone := live.zones ++ live.overlays.flatMap (·.zones)

/-- R20: the destination channel of a zone is SAME or below 32. -/
def Zone.channelOk (z : Zone) : Bool := z.destCh.all fun c => decide (c < 32)

/-- R41 to R44: the laws of the held-note table, of the destination count map and of the hold flags, with what
they rest on: the zones in the live copy and in the store name channels below 32 (R20, R94; while LOADING the store
holds the defaults, log entry 10). -/
structure State.NotesLaw (s : State) : Prop where
  /-- no two entries of one source, channel and key -/
  keys : s.tracker.table.Pairwise fun a b => Entry.isFor a.src a.ch a.key b = false
  entries : s.tracker.table.length ≤ Config.tableSize
  copies : ∀ e ∈ s.tracker.table, e.copies.length ≤ Config.fanOut
  /-- no SUSTAINED entry without copies -/
  sustained : ∀ e ∈ s.tracker.table, e.state = .sustained → e.copies ≠ []
  /-- R44: a SUSTAINED entry exists only while its flag is set -/
  held : ∀ e ∈ s.tracker.table, e.state = .sustained → s.held e.src e.ch = true
  origins : ∀ e ∈ s.tracker.table, e.src < 13 ∧ e.ch < 32
  dests : ∀ c ∈ s.tracker.copies, c.ch < 32 ∧ c.key < 128
  /-- R43: the count is the number of copies that name the destination -/
  counts : ∀ a, s.tracker.counts.read a = s.tracker.holders a
  bound : ∀ a, s.tracker.counts.read a ≤ Config.maxCount
  countsForm : s.tracker.counts.wf = true
  holdsForm : s.tracker.holds.wf = true
  live : ∀ z ∈ s.switch.live.allZones, z.channelOk = true
  store : ∀ i : Fin 64, Record.checkScene (s.store.get .scene i) = none

/-- The frames that wait in a link's output queue and deferral queue. -/
def Link.waiting (k : Link) : List Waiting := k.queue ++ k.deferral

/-- R42: every PENDING copy has exactly one waiting NOTE_ON, on its link, and every waiting NOTE_ON belongs to a
PENDING copy of the held-note table; with what this rests on: copies have identities of their own, and no recall
frame is a NOTE_ON (R76). -/
structure State.CopiesLaw (s : State) : Prop where
  ids : (s.tracker.copies.map (·.id)).Nodup
  fresh : ∀ c ∈ s.tracker.copies, c.id < s.tracker.nextCopy
  pending : ∀ c ∈ s.tracker.copies, c.state = .pending →
    (s.link c.link).waiting.countP (fun w => w.copy == some c.id) = 1
  owned : ∀ l : Fin 12, ∀ w ∈ (s.link l).waiting, Frame.kind w.frame = 1 ∨ w.copy ≠ none →
    ∃ c ∈ s.tracker.copies, c.state = .pending ∧ c.link = l.val ∧ w.copy = some c.id ∧
      w.frame = .noteOn c.ch c.key c.vel
  recalls : ∀ r ∈ s.switch.live.recalls, Frame.kind r.frame ≠ 1
  todo : ∀ l : Fin 12, ∀ f ∈ (s.link l).window.todo, Frame.kind f ≠ 1

/-! ### Tempo (R127, R129, R134) -/

/-- A tempo of the range of R127. -/
abbrev tempoOk (t : Nat) : Prop := 3000 ≤ t ∧ t ≤ 30000

/-- R129: the applied increment that a tempo and a correction give. -/
def appliedFor (t : Nat) : Option Int → Nat
  | none => inc t
  | some c => corrected t c

/-- R127, R129, R134: T in range, the applied increment INC(T) or its correction, an active ramp between tempos in
range and short of its last step; and, so that commits keep it, scene tempos 0 or in range (R94; while LOADING those
of the defaults, log entry 10). -/
structure State.TempoLaw (s : State) : Prop where
  tempo : tempoOk s.beat.tempo
  applied : s.beat.applied = appliedFor s.beat.tempo s.follow.correction
  correction : ∀ c, s.follow.correction = some c → -12 ≤ c ∧ c ≤ 12
  ramp : ∀ r, s.beat.ramp = some r → tempoOk r.start ∧ tempoOk r.target ∧ (r.steps = 0 ∨ r.step < r.steps)
  loading : s.part = .loading → s.follow.correction = none
  store : ∀ i : Fin 64, u16At (s.store.get .scene i) 16 = 0 ∨ tempoOk (u16At (s.store.get .scene i) 16)

/-! ### The beat (R130 to R132) -/

/-- R130 to R132: the pulse, the fraction, the beat index and the bar number in their ranges, the beats per bar in
that of R94, and, while LOADING, a transport that stands (R141). At most one advance is owed, one that stands at this
instant: none that fell due before it is left untaken (the model's own, log entries 1 and 2). -/
structure State.BeatLaw (s : State) : Prop where
  pulse : s.beat.pulse < 240
  fraction : s.beat.fraction < Config.pulseUnits
  index : s.beat.index < s.beat.current
  current : s.beat.current ≤ 16
  pending : 1 ≤ s.beat.pending ∧ s.beat.pending ≤ 16
  bar : s.beat.bar = -2 ∨ s.beat.bar = -1 ∨ (1 ≤ s.beat.bar ∧ s.beat.bar ≤ 32767)
  owed : s.beat.owed ≤ 1
  loading : s.part = .loading → s.beat.transport = .stopped ∧ s.beat.startPending = false

/-! ### The switch controller (R105) -/

/-- R105: an armed request only in ARMED, a queued request, a recalling target and a wait set only in RECALLING, and
ARMED or RECALLING only while the set length is above 0; with what this rests on: a request's song lies within the
set (R108, R123), and, the model's own, the set length is 0 while LOADING, since the store then holds the defaults
(log entry 10). -/
structure State.SwitchLaw (s : State) : Prop where
  armed : s.switch.armed.isSome = true ↔ s.switch.state = .armed
  recalling : s.switch.recalling.isSome = true ↔ s.switch.state = .recalling
  queued : s.switch.queued ≠ none → s.switch.state = .recalling
  waits : s.switch.waitSet ≠ [] → s.switch.state = .recalling
  set : s.switch.state ≠ .idle → 0 < s.store.setLength
  songs : ∀ r, s.switch.armed = some r ∨ s.switch.queued = some r → r.target.song < s.store.setLength
  loading : s.part = .loading → s.store.setLength = 0

/-! ### Links that take no playing (R82) -/

/-- R82: nothing of a performance waits, and no window is open. -/
abbrev Link.Quiet (k : Link) : Prop :=
  k.realTime = [] ∧ k.silenceFlag = false ∧ k.release = [] ∧ k.deferral = [] ∧ k.window.state = .closed ∧
  ∀ w ∈ k.queue, Frame.performance w.frame = false

/-- R82: a link that is DOWN, or that is neither MODULE nor CLICK, is quiet. On a CLICK link only the
real-time list can hold anything of the beat engine's. A link that is DOWN or not MODULE has destination counts
of 0 only (R13, R82). While LOADING no link has a role (R19). -/
structure State.QuietLaw (s : State) : Prop where
  quiet : ∀ l : Fin 12, (s.link l).up = false ∨ ((s.link l).role ≠ .module ∧ (s.link l).role ≠ .click) →
    (s.link l).Quiet
  click : ∀ l : Fin 12, (s.link l).role = .click → { s.link l with realTime := [] }.Quiet
  counts : ∀ l : Fin 12, (s.link l).up = false ∨ (s.link l).role ≠ .module →
    ∀ ch key, ch < 32 → key < 128 → s.destCount l ch key = 0
  loading : s.part = .loading → ∀ l : Fin 12, (s.link l).role = .unused

/-! ### Counters (00_scope.md, R85) -/

/-- R18, R88: the event counters of a link. -/
def Link.counters (k : Link) : List Nat :=
  [k.ctr.accepted, k.ctr.bad, k.ctr.malformed, k.ctr.overflows, k.ctr.notRouted, k.ctr.ignored, k.ctr.flushed,
   k.ctr.losses, k.ctr.sent, k.ctr.presenceSent, k.out.overruns, k.out.refusedNotes, k.out.droppedCtl,
   k.out.droppedReplies, k.out.coalesced, k.out.withdrawals, k.out.opened, k.out.restarts]

/-- Every 16-bit event counter of the part (R18, R40, R62, R88, R125, R140, R154, R181). -/
def State.eventCounters (s : State) : List Nat :=
  linkNumbers.flatMap (fun l => (s.link l).counters) ++
  [s.router.fanOut, s.router.transposeRange, s.router.unavailable, s.router.withoutCopies] ++
  [s.tracker.ctr.reStrikes, s.tracker.ctr.steals, s.tracker.ctr.refusedNotes, s.tracker.ctr.suppressed,
   s.tracker.ctr.refusedCopies, s.tracker.ctr.unmatchedReleases, s.tracker.ctr.unmatchedPressure] ++
  [s.switch.ctr.taken, s.switch.ctr.refused, s.switch.ctr.superseded, s.switch.ctr.cancelled,
   s.switch.ctr.cuesSkipped, s.switch.ctr.commits, s.switch.ctr.fallbackCommits] ++
  [s.beat.ctr.rampsBegun, s.beat.ctr.rampsEnded, s.beat.ctr.tapRestarts, s.beat.ctr.tapsRefused,
   s.beat.ctr.tempoRefused] ++
  [s.follow.ctr.beats, s.follow.ctr.outliers, s.follow.ctr.locks, s.follow.ctr.lockLosses,
   s.follow.ctr.holdovers] ++
  [s.mgmt.ctr.answered, s.mgmt.ctr.denied, s.mgmt.ctr.noticesDropped]

/-- R85: every wait-histogram bin of the part. -/
def State.binCounts (s : State) : List Nat :=
  linkNumbers.flatMap fun l => (s.link l).bins.toList.map (·.count)

/-- Every counter at or below its maximum. -/
def State.Counted (s : State) : Prop :=
  (∀ n ∈ s.eventCounters, n ≤ Config.counterMax) ∧ ∀ n ∈ s.binCounts, n ≤ Config.binMax

/-! ### Records (R191) -/

/-- R191: every record has the length of its table. -/
def Store.Shaped (s : Store) : Prop :=
  (∀ r ∈ s.scenes.toList, r.length = 520) ∧ (∀ r ∈ s.songs.toList, r.length = 53) ∧
  (∀ r ∈ s.links.toList, r.length = 7) ∧ (∀ r ∈ s.pedals.toList, r.length = 10) ∧
  (∀ r ∈ s.foots.toList, r.length = 7) ∧ s.system.length = 10

/-! ### Valid records (R20, R92 to R94, R97, R98, R167, R172, R184)

Each says which offsets hold a field that breaks its rule, a pair out of order at its second field (R94), a cue out
of order at its bar (R97). A record is valid when no offset does. -/

/-- R20: the fields of the zone at `o` that are out of range. -/
def Record.zoneFault (r : Record) (o off : Nat) : Prop :=
  (off = o ∧ 12 < u8At r o) ∨
  (off = o + 1 ∧ 31 < u8At r (o + 1) ∧ u8At r (o + 1) ≠ 255) ∨
  (off = o + 2 ∧ 127 < u8At r (o + 2)) ∨
  (off = o + 3 ∧ (127 < u8At r (o + 3) ∨ u8At r (o + 3) < u8At r (o + 2))) ∨
  (off = o + 4 ∧ (u8At r (o + 4) = 0 ∨ 127 < u8At r (o + 4))) ∨
  (off = o + 5 ∧ (u8At r (o + 5) = 0 ∨ 127 < u8At r (o + 5) ∨ u8At r (o + 5) < u8At r (o + 4))) ∨
  (off = o + 6 ∧ 11 < u8At r (o + 6)) ∨
  (off = o + 7 ∧ 31 < u8At r (o + 7) ∧ u8At r (o + 7) ≠ 255) ∨
  (off = o + 8 ∧ (s8At r (o + 8) < -48 ∨ 48 < s8At r (o + 8))) ∨
  (off = o + 10 ∧ s8At r (o + 10) = -128)

/-- R92: the fields of the recall entry at `o` that are out of range. -/
def Record.recallFault (r : Record) (o off : Nat) : Prop :=
  (off = o ∧ 11 < u8At r o) ∨
  (off = o + 1 ∧ 1 < u8At r (o + 1)) ∨
  (off = o + 2 ∧ 31 < u8At r (o + 2)) ∨
  (off = o + 3 ∧ u8At r (o + 1) = 0 ∧ 16383 < u16At r (o + 3)) ∨
  (off = o + 5 ∧ u8At r (o + 1) = 0 ∧ 127 < u8At r (o + 5)) ∨
  (off = o + 4 ∧ u8At r (o + 1) ≠ 0 ∧ 1023 < u16At r (o + 4))

/-- R93: the fields of the overlay at `o` that are out of range. -/
def Record.overlayFault (r : Record) (o off : Nat) : Prop :=
  (off = o ∧ 1 < u8At r o) ∨
  (off = o + 1 ∧ (u8At r (o + 1) = 0 ∨ 4 < u8At r (o + 1))) ∨
  ∃ i, i < u8At r (o + 1) ∧ Record.zoneFault r (o + 2 + 12 * i) off

/-- R94: the fields of a scene record that are out of range. -/
def Record.sceneFault (r : Record) (off : Nat) : Prop :=
  (off = 16 ∧ u16At r 16 ≠ 0 ∧ (u16At r 16 < 3000 ∨ 30000 < u16At r 16)) ∨
  (off = 18 ∧ 16 < u8At r 18) ∨
  (off = 19 ∧ (u8At r 19 = 0 ∨ 16 < u8At r 19)) ∨
  (off = 20 ∧ u8At r 20 ∉ [1, 2, 3, 4, 6]) ∨
  (off = 21 ∧ 3 < u8At r 21) ∨
  (off = 22 ∧ 2 < u8At r 22) ∨
  (off = 23 ∧ 16 < u8At r 23) ∨
  (off = 24 ∧ 16 < u8At r 24) ∨
  (off = 25 ∧ 4 < u8At r 25) ∨
  (∃ i, i < u8At r 23 ∧ Record.zoneFault r (32 + 12 * i) off) ∨
  (∃ i, i < u8At r 24 ∧ Record.recallFault r (224 + 6 * i) off) ∨
  (∃ i, i < u8At r 25 ∧ Record.overlayFault r (320 + 50 * i) off)

/-- R95, R97: the fields of a song entry that are out of range, or cues out of order. -/
def Record.songFault (r : Record) (off : Nat) : Prop :=
  (off = 16 ∧ (u8At r 16 = 0 ∨ 8 < u8At r 16)) ∨
  (∃ i, i < u8At r 16 ∧ off = 18 + i ∧ 63 < u8At r (18 + i)) ∨
  (off = 26 ∧ 8 < u8At r 26) ∨
  (∃ i, i < u8At r 26 ∧ off = 27 + 3 * i ∧ (u16At r (27 + 3 * i) < 2 ∨ 9999 < u16At r (27 + 3 * i) ∨
    (0 < i ∧ u16At r (27 + 3 * i) ≤ u16At r (24 + 3 * i)))) ∨
  (∃ i, i < u8At r 26 ∧ off = 29 + 3 * i ∧ u8At r 16 ≤ u8At r (29 + 3 * i))

/-- R184: the follow enable is set, and the follow link's record does not hold role SOURCE. -/
def Store.followAstray (s : Store) : Prop := s.followEnable = true ∧ u8At (s.get .link s.followLink) 0 ≠ 1

/-- R184: no link record holds FULL rights. -/
def Store.noneFull (s : Store) : Prop := ∀ i : Fin 12, u8At (s.get .link i) 1 ≠ 3

/-- R78, R161, R184: the fields of the record of link `l` that break a rule, in the whole store. -/
def Store.linkFault (s : Store) (l off : Nat) : Prop :=
  let r := s.get .link l
  (off = 0 ∧ (3 < u8At r 0 ∨ (s.followLink = l ∧ s.followAstray))) ∨
  (off = 1 ∧ (3 < u8At r 1 ∨ s.noneFull)) ∨
  (off = 2 ∧ 500 < u16At r 2) ∨
  (off = 4 ∧ u8At r 4 ≠ 0 ∧ ¬ u8At r 4 ∣ 240)

/-- R98, R184: the fields of the system record that break a rule, in the whole store (a start-up song that does not
go with the set length: log entry 21; a flags byte with an unused bit set: log entry 51). -/
def Store.systemFault (s : Store) (off : Nat) : Prop :=
  (off = 0 ∧ 48 < s.setLength) ∨
  (off = 1 ∧ ((s.setLength = 0 ∧ s.startSong ≠ 0) ∨ (0 < s.setLength ∧ s.setLength ≤ s.startSong))) ∨
  (off = 2 ∧ 1 < u8At s.system 2) ∨
  (off = 3 ∧ (11 < s.followLink ∨ s.followAstray)) ∨
  (off = 4 ∧ 11 < s.reportLink) ∨
  (off = 5 ∧ 4095 < u16At s.system 5)

/-- R167: the fields of a pedal record that are out of range. -/
def Record.pedalFault (r : Record) (off : Nat) : Prop :=
  (off = 1 ∧ 31 < u8At r 1) ∨
  (off = 3 ∧ 1023 < u16At r 3) ∨
  (off = 5 ∧ (1023 < u16At r 5 ∨ u16At r 5 < u16At r 3 + 64)) ∨
  (off = 7 ∧ (u8At r 7 = 0 ∨ 32 < u8At r 7))

/-- R172: the fields of a footswitch record that are out of range. Codes 1 to 4 are the switch requests, 7 and 8
the overlay functions, 9 is HOLD (R191). -/
def Record.footFault (r : Record) (off : Nat) : Prop :=
  let fn := u8At r 0
  (off = 0 ∧ 10 < fn) ∨
  (off = 1 ∧ 1 < u8At r 1) ∨
  (off = 2 ∧ (u8At r 2 = 0 ∨ 31 < u8At r 2)) ∨
  (off = 3 ∧ 1 ≤ fn ∧ fn ≤ 4 ∧ 2 < u8At r 3) ∨
  (off = 4 ∧ 1 ≤ fn ∧ fn ≤ 4 ∧ 8 < u8At r 4) ∨
  (off = 3 ∧ (fn = 7 ∨ fn = 8) ∧ 3 < u8At r 3) ∨
  (off = 3 ∧ fn = 9 ∧ 12 < u8At r 3) ∨
  (off = 4 ∧ fn = 9 ∧ 31 < u8At r 4)

/-- R94, R97, R184: the field at an offset of record `i` of a table breaks a rule. -/
def Store.fault (s : Store) (t : Table) (i off : Nat) : Prop :=
  match t with
  | .scene => Record.sceneFault (s.get .scene i) off
  | .song => Record.songFault (s.get .song i) off
  | .link => s.linkFault i off
  | .pedal => Record.pedalFault (s.get .pedal i) off
  | .footswitch => Record.footFault (s.get .footswitch i) off
  | .system => s.systemFault off

/-- R89, R183, R184, R188, R191: every record has the length of its table and passes the validation of an edit
commit, and the image of an OPEN edit slot is as long as the record it will replace (R182). While LOADING the records
are the defaults, the model's choice (log entry 10). -/
structure State.RecordsLaw (s : State) : Prop where
  shaped : s.store.Shaped
  valid : ∀ (t : Table) (i : Nat), i < Table.size t → s.store.check t i = none
  slots : ∀ n x, s.slot n = some x → x.index < Table.size x.table ∧ x.image.length = Table.length x.table

/-! ### Items of STATUS (R181) -/

/-- A number in a width, the high byte first (R191; for four bytes log entry 43). -/
def inBytes (width n : Nat) : List Byte := (List.range width).map fun i => byte (n / 256 ^ (width - 1 - i))

/-- R181: items, each with its width in bytes. -/
def items (l : List (Nat × Nat)) : List Byte := l.flatMap fun x => inBytes x.1 x.2

/-- R181: an absent item, all ones in its width. -/
def absent (width : Nat) : List (Nat × Nat) := [(width, 256 ^ width - 1)]

/-- R181: a single flag. -/
def bit (b : Bool) : Nat := if b then 1 else 0

/-- R181: eight flags of a group, the first in the top bit. -/
def eight (f : Nat → Bool) : Nat := ((List.range 8).map fun j => bit (f j) * 2 ^ (7 - j)).sum

/-- R181: 16-bit counters, or counts. -/
def inTwo (l : List Nat) : List (Nat × Nat) := l.map fun n => (2, n)

/-- R155: a set of click settings. -/
def Click.shown (c : Click) : List (Nat × Nat) := (c.accents ++ [c.subdivision, c.level]).map fun n => (1, n)

/-! ### What a request asks for (R177, R191) -/

/-- A request as R177 judges it: the link, the request code, the tag and the arguments of its MGMT_REQ frame,
the rights it needs, whether code and argument length are right, and whether it is served while LOADING. -/
structure Asked where
  link : Fin 12
  code : Byte
  tag : Byte
  args : List Byte
  need : Rights
  form : Bool
  loading : Bool
deriving DecidableEq, Repr

/-- The MGMT_REQ frame of a request. -/
def Asked.frame (a : Asked) : Frame := .mgmtReq a.code a.tag a.args

/-- A COMMAND request (R185, R191). -/
def Asked.ofCommand (l : Fin 12) (tag : Byte) (args : List Byte) (cmd : Nat) (need : Rights) (len : Nat) : Asked :=
  { link := l, code := 8, tag := tag, args := byte cmd :: args, need := need, form := args.length == len,
    loading := false }

/-- R177, R191: what each request row asks for; the other commands are no requests. -/
def Instr.asked : Instr → Option Asked
  | .identify l tag args => some ⟨l, 1, tag, args, .read, args.length == 1, true⟩
  | .read l tag args => some ⟨l, 2, tag, args, .read, args.length == 5, false⟩
  | .status l tag args => some ⟨l, 3, tag, args, .read, args.length == 3, true⟩
  | .editOpen l tag args => some ⟨l, 4, tag, args, .full, args.length == 2, false⟩
  | .editPut l tag args => some ⟨l, 5, tag, args, .full, decide (4 ≤ args.length ∧ args.length ≤ 19), false⟩
  | .editCommit l tag args => some ⟨l, 6, tag, args, .full, args.length == 3, false⟩
  | .editAbandon l tag args => some ⟨l, 7, tag, args, .full, args.length == 1, false⟩
  | .select l tag args => some (.ofCommand l tag args 1 .command 4)
  | .nextScene l tag args => some (.ofCommand l tag args 2 .command 2)
  | .prevScene l tag args => some (.ofCommand l tag args 3 .command 2)
  | .nextSong l tag args => some (.ofCommand l tag args 4 .command 2)
  | .prevSong l tag args => some (.ofCommand l tag args 5 .command 2)
  | .apply l tag args => some (.ofCommand l tag args 6 .command 2)
  | .cancelSwitch l tag args => some (.ofCommand l tag args 7 .command 0)
  | .engageOverlay l tag args => some (.ofCommand l tag args 8 .command 1)
  | .releaseOverlay l tag args => some (.ofCommand l tag args 9 .command 1)
  | .start l tag args => some (.ofCommand l tag args 10 .command 0)
  | .stop l tag args => some (.ofCommand l tag args 11 .command 0)
  | .tap l tag args => some (.ofCommand l tag args 12 .command 0)
  | .setTempo l tag args => some (.ofCommand l tag args 13 .command 2)
  | .panic l tag args => some (.ofCommand l tag args 14 .command 0)
  | .histogramEnable l tag args => some (.ofCommand l tag args 15 .full 1)
  | .histogramClear l tag args => some (.ofCommand l tag args 16 .full 0)
  | .clearStats l tag args => some (.ofCommand l tag args 17 .full 0)
  | .clearFault l tag args => some (.ofCommand l tag args 18 .full 0)
  | .saveImage l tag args => some (.ofCommand l tag args 19 .full 0)
  | .restart l tag args => some (.ofCommand l tag args 20 .full 0)
  | .unknownRequestCode l code tag args =>
    if knownCode code args then none else some ⟨l, code, tag, args, .command, false, false⟩
  | .powerOn | .imageLoadDone _ _ | .loadTimeout | .frameReceived _ _ | .silenceTimerExpiry _ | .noteOn _ _ _ _
  | .noteOff _ _ _ _ | .pressure _ _ _ _ | .control _ _ _ _ | .bend _ _ _ | .hold _ _ _ _ | .beat _ _ _ _ _ _
  | .followSilenceTimerExpiry | .transmitStart _ | .frameTransmitted _ | .presenceTimerExpiry _ | .recallFeed _
  | .settleTimerExpiry _ | .drainMove _ | .lateTimerExpiry _ | .tableFullTimerExpiry | .pulse | .beatBoundary
  | .pedalEvaluation _ _ _ | .footswitchPress _ _ | .footswitchRelease _ _ | .panicHoldTimerExpiry _
  | .editSlotTimeout _ | .saveDone _ _ | .saveTimeout | .frameNotRouted _ _ | .footswitchSample _ _ _ => none

/-! ### Deliveries (R6 to R8, R10) -/

/-- R6, R7: a receive FIFO after its link's position is granted for frame `f`: without its head, when that is
the frame. (A command may also carry a frame that no FIFO holds, log entry 5.) -/
def afterGrant (fifo : List Received) (f : Frame) : List Received :=
  match fifo with
  | r :: rest => if r.frame = f then rest else r :: rest
  | [] => []

/-- The link and the frame of a command that delivers a frame to a block, or discards it. -/
def Instr.delivers : Instr → Option (Fin 12 × Frame)
  | .noteOn l ch key vel => some (l, .noteOn ch key vel)
  | .noteOff l ch key vel => some (l, .noteOff ch key vel)
  | .pressure l ch key val => some (l, .pressure ch key val)
  | .control src ch num val => if h : src.val < 12 then some (⟨src.val, h⟩, .control ch num val) else none
  | .bend l ch val => some (l, .bend ch val)
  | .hold pos src ch state =>
    if h : pos.val < 12 then (if src = pos then some (⟨pos.val, h⟩, .hold ch state) else none) else none
  | .beat l _ bar beat bpb tempo => some (l, .beat bar beat bpb tempo)
  | .frameNotRouted l f => some (l, f)
  | .powerOn | .imageLoadDone _ _ | .loadTimeout | .frameReceived _ _ | .silenceTimerExpiry _
  | .followSilenceTimerExpiry | .transmitStart _ | .frameTransmitted _ | .presenceTimerExpiry _ | .recallFeed _
  | .settleTimerExpiry _ | .drainMove _ | .lateTimerExpiry _ | .tableFullTimerExpiry | .pulse | .beatBoundary
  | .pedalEvaluation _ _ _ | .footswitchPress _ _ | .footswitchRelease _ _ | .panicHoldTimerExpiry _
  | .editSlotTimeout _ | .saveDone _ _ | .saveTimeout | .identify _ _ _ | .read _ _ _ | .status _ _ _
  | .editOpen _ _ _ | .editPut _ _ _ | .editAbandon _ _ _ | .editCommit _ _ _ | .select _ _ _ | .nextScene _ _ _
  | .prevScene _ _ _ | .nextSong _ _ _ | .prevSong _ _ _ | .apply _ _ _ | .cancelSwitch _ _ _
  | .engageOverlay _ _ _ | .releaseOverlay _ _ _ | .start _ _ _ | .stop _ _ _ | .tap _ _ _ | .setTempo _ _ _
  | .panic _ _ _ | .histogramEnable _ _ _ | .histogramClear _ _ _ | .clearStats _ _ _ | .clearFault _ _ _
  | .saveImage _ _ _ | .restart _ _ _ | .unknownRequestCode _ _ _ _ | .footswitchSample _ _ _ => none

/-- R9, R177: a request of link `l` that needs `need` comes to its own work: the part is READY and the rights
are NONE in no case and high enough. -/
abbrev State.Serves (s : State) (l : Fin 12) (need : Rights) : Prop :=
  s.part = .ready ∧ (s.link l).rights ≠ .none ∧ Rights.code need ≤ Rights.code (s.link l).rights

/-- A performance frame's delivery that the rules route: an accepted frame of a SOURCE link while READY (R8). -/
abbrev State.Routed (s : State) (l : Fin 12) (f : Frame) : Prop :=
  Frame.accepted f = true ∧ s.part = .ready ∧ (s.link l).role = .source

/-- The plan of the router that a copy record came from (R28, R42). -/
def Copy.plan (c : Copy) : Plan :=
  { link := c.link, ch := c.ch, key := c.key, vel := c.vel, holdFollow := c.holdFollow,
    passPressure := c.passPressure }

/-! ### The beat engine's frames and snaps, as the rules state them -/

/-- R67, R82: the link after the beat engine has posted frames to it in order: with room they join the real-time
list, the others are overruns, and a link that is not UP, or neither MODULE nor CLICK, takes none. -/
def Link.offered (k : Link) (fs : List Frame) : Link :=
  let fit := Config.realTimeSize - k.realTime.length
  let lost := (fs.drop fit).length
  if k.up ∧ (k.role = .module ∨ k.role = .click) then
    { k with
      realTime := k.realTime ++ fs.take fit
      out := { k.out with overruns := if lost = 0 then k.out.overruns else bump k.out.overruns lost } }
  else k

/-- R162: the frames that link `l` is posted at a boundary or a START that leaves the beat engine as `b`. -/
def State.boundaryFrames (s : State) (l : Nat) (b : Beat) : List Frame :=
  let level := if b.transport = .countIn then (if b.index = 0 then 3 else 2) else b.inForce.accents.getD b.index 0
  (if s.store.divisor l = 0 then [] else [.clock 0]) ++
  if (s.link l).role = .click then
    .beat b.bar b.index b.current b.tempo :: (if level = 0 then [] else [.click level b.index 0])
  else []

/-- R137, R151: the beat engine after a snap that begins no bar. -/
def Beat.snapped (b : Beat) : Beat :=
  if b.transport = .stopped then b
  else { b with
    pulse := 0, fraction := 0, owed := 0
    index := if 120 ≤ b.pulse then b.index + 1 else b.index
    inForce := if 120 ≤ b.pulse then b.handed else b.inForce }

/-- R24, R28: the router's counters after a NOTE_ON: those of the walk, and one more note without copies when it
gave none. -/
def State.noteCounters (s : State) (src ch key vel : Nat) : RouterCounters :=
  let (plans, c) := s.planNote src ch key vel
  if plans = [] then { c with withoutCopies := bump c.withoutCopies 1 } else c

/-- R137, R151, R163: the beat engine short of a boundary, which a snap at pulse 120 or above then makes: the
boundary that it makes is the one BEAT_BOUNDARY makes of this (log entry 1: an advance owed). -/
def Beat.beforeBoundary (b : Beat) : Beat := { b with pulse := 239, fraction := 0, owed := 1 }

/-- R137, R151: the snap begins a beat, so the frames of a boundary are posted. -/
abbrev Beat.snapsForward (b : Beat) : Prop := b.transport ≠ .stopped ∧ 120 ≤ b.pulse

/-- R131, R134: the beat engine after step 2 of a boundary. -/
def Beat.rampStepped (b : Beat) : Beat :=
  match b.ramp with
  | none => b
  | some r =>
    let k := r.step + 1
    let t := ((r.start : Int) + Int.tdiv (((r.target : Int) - r.start) * k) r.steps).toNat
    { b with tempo := t, applied := inc t, ramp := if k < r.steps then some { r with step := k } else none }

/-- R130: the next advance of the accumulator comes `n` µs from now; at once when one is owed (the model's choice,
log entry 1). -/
abbrev Beat.advancesIn (b : Beat) (n : Nat) : Prop :=
  if 0 < b.owed then n = 0
  else 268435456 ≤ b.fraction + n * b.applied ∧ ∀ m, m < n → b.fraction + m * b.applied < 268435456

/-- R130: `b'` is `b` after `n` µs of additions and one advance taken, the pulse apart. Advances that the sum has
reached and that are not taken yet are owed (the model's choice, log entry 1). -/
def Beat.Advanced (b b' : Beat) (n : Nat) : Prop :=
  b'.fraction < 268435456 ∧
  b'.fraction + 268435456 * (b'.owed + 1) = b.fraction + n * b.applied + 268435456 * b.owed

/-- R164: the cues of the song of the position; none beyond the set. -/
def State.songCues (s : State) : List (Nat × Nat) :=
  if s.switch.position.song < s.store.setLength then Record.cues (s.store.get .song s.switch.position.song) else []

/-- R157, R164: `t` is `s` with START carried out: the beat engine at the start of the count-in or of bar 1, the
frames of the boundary posted, and, at bar 1, the cue of bar 2 at the switch controller; the rest as it was. -/
structure State.Started (s t : State) : Prop where
  beat : t.beat = { s.beat with
    pulse := 0, fraction := 0, owed := 0, index := 0, current := s.beat.pending, inForce := s.beat.handed,
    startPending := false
    bar := if s.beat.countIn = 2 then -2 else if s.beat.countIn = 1 then -1 else 1
    transport := if s.beat.countIn = 0 then .running else .countIn }
  links : ∀ l : Fin 12, t.link l = (s.link l).offered (s.boundaryFrames l t.beat)
  rest : { t with beat := s.beat, links := s.links, switch := s.switch } = s
  still : s.beat.countIn ≠ 0 ∨ (∀ c ∈ s.songCues, c.1 ≠ 2) → t.switch = s.switch
  cue : ∀ c, s.beat.countIn = 0 → s.songCues.find? (fun c => c.1 == 2) = some c → s.switch.state = .idle →
    { t.switch with ctr := s.switch.ctr } = { s.switch with
      state := .armed
      armed := some ⟨⟨s.switch.position.song, c.2⟩, .atBar, 0, 0, .cue⟩ }

/-! ### Events that stand at an instant -/

/-- What an event of the table waits for, when the arbiter does not bring it: an expired timer, a frame that has
ended, a free transmitter with something to send, a window that can feed or drain, an advance owed, a pedal's
eighth sample (R12, R16, R17, R50, R66, R77 to R79, R86, R130, R149, R167, R174, R182, R188, R189). -/
def State.stands (s : State) : Instr → Prop
  | .silenceTimerExpiry l => (s.link l).up = true ∧ ∃ d, (s.link l).silence = some d ∧ d ≤ s.now
  | .frameTransmitted l => ∃ o, (s.link l).onLine = some o ∧ o.ends ≤ s.now
  | .transmitStart l => let k := s.link l
    k.onLine = none ∧ k.freeAt ≤ s.now ∧ (k.realTime ≠ [] ∨ k.silenceFlag = true ∨ k.release ≠ [] ∨ k.queue ≠ [])
  | .presenceTimerExpiry l => let k := s.link l
    k.onLine = none ∧ k.freeAt ≤ s.now ∧ k.presence ≤ s.now
  | .recallFeed l => let k := s.link l
    k.window.state = .sending ∧ k.window.fed = false ∧ k.window.todo ≠ [] ∧ k.queue.length < 64
  | .settleTimerExpiry l => let k := s.link l
    k.window.state = .settling ∧ k.window.since + s.store.settleTime l ≤ s.now
  | .drainMove l => let k := s.link l
    k.window.state = .draining ∧ (k.deferral = [] ∨ k.queue.length < 64)
  | .lateTimerExpiry l => ∃ d, (s.link l).late = some d ∧ d ≤ s.now
  | .tableFullTimerExpiry => ∃ d, s.tracker.tableFull = some d ∧ d ≤ s.now
  | .pulse => s.beat.transport ≠ .stopped ∧ 0 < s.beat.owed ∧ s.beat.pulse < 239
  | .beatBoundary => s.beat.transport ≠ .stopped ∧ 0 < s.beat.owed ∧ 239 ≤ s.beat.pulse
  | .followSilenceTimerExpiry =>
    ∃ arr d, s.follow.lastArrival = some arr ∧ s.follow.limit = some d ∧ arr + d ≤ s.now
  | .panicHoldTimerExpiry f => ∃ d, (s.foot f).timer = some d ∧ d ≤ s.now
  | .editSlotTimeout n => ∃ x, s.slot n = some x ∧ x.expires ≤ s.now
  | .pedalEvaluation p instant samples => let x := s.pedal p
    s.part = .ready ∧ Record.flag (s.store.get .pedal p) 0 0 = true ∧ x.next ≤ s.now ∧ 7 ≤ x.phase ∧
    instant = x.next ∧ samples = [Config.adcSample s.drawn p % 1024]
  | .loadTimeout => s.part = .loading ∧ s.loadBy ≤ s.now
  | .saveTimeout => ∃ v, s.mgmt.save = some v ∧ v.expires ≤ s.now
  | .powerOn | .imageLoadDone _ _ | .frameReceived _ _ | .noteOn _ _ _ _ | .noteOff _ _ _ _ | .pressure _ _ _ _
  | .control _ _ _ _ | .bend _ _ _ | .hold _ _ _ _ | .beat _ _ _ _ _ _ | .footswitchPress _ _
  | .footswitchRelease _ _ | .footswitchSample _ _ _ | .saveDone _ _ | .frameNotRouted _ _ | .identify _ _ _
  | .read _ _ _ | .status _ _ _ | .editOpen _ _ _ | .editPut _ _ _ | .editAbandon _ _ _ | .editCommit _ _ _
  | .select _ _ _ | .nextScene _ _ _ | .prevScene _ _ _ | .nextSong _ _ _ | .prevSong _ _ _ | .apply _ _ _
  | .cancelSwitch _ _ _ | .engageOverlay _ _ _ | .releaseOverlay _ _ _ | .start _ _ _ | .stop _ _ _ | .tap _ _ _
  | .setTempo _ _ _ | .panic _ _ _ | .histogramEnable _ _ _ | .histogramClear _ _ _ | .clearStats _ _ _
  | .clearFault _ _ _ | .saveImage _ _ _ | .restart _ _ _ | .unknownRequestCode _ _ _ _ => False

/-- R177: the reply that answers a request, as it waits in the output queue. -/
def replyFrame (code tag : Byte) (st : Status) (data : List Byte) (now : Nat) : Waiting :=
  { frame := .mgmtReply code tag (byte (Status.code st)) data, entry := now, copy := none, fromRecall := false }

/-- R186: a notice as it waits in an output queue. -/
def noticeFrame (n : Notice) (now : Nat) : Waiting :=
  { frame := n.frame, entry := now, copy := none, fromRecall := false }

end Sys2Proof.Machine
end

