-- ==== Sys2Proof/WellFormed.lean ====
section
/-! DEFINITION. Which commands are well formed: a delivered frame holds accepted values (R4), a frame's source
is its link, a pedal gives one to eight samples of ten bits up to an evaluation (R167), arguments fit a MGMT_REQ
frame (R4), and an image has the length of R187. -/
namespace Sys2Proof
open Machine

/-- R4: the arguments of a request fit the payload, `extra` of whose 24 bytes are taken already. -/
def argsFit (extra : Nat) (args : List Byte) : Bool := decide (args.length + extra ≤ 24)

/-- A command that its sender may give. -/
def Instr.wf : Instr → Bool
  | .imageLoadDone _ image => image.length == imageLength + 4
  | .saveDone _ image => image.length == imageLength + 4
  | .noteOn _ ch key vel => Frame.accepted (.noteOn ch key vel)
  | .noteOff _ ch key vel => Frame.accepted (.noteOff ch key vel)
  | .pressure _ ch key val => Frame.accepted (.pressure ch key val)
  | .control _ ch num val => Frame.accepted (.control ch num val)
  | .bend _ ch val => Frame.accepted (.bend ch val)
  | .hold pos src ch state => Frame.accepted (.hold ch state) && (pos.val == 12 || src == pos)
  | .beat _ _ bar idx bpb tempo => Frame.accepted (.beat bar idx bpb tempo)
  | .pedalEvaluation _ _ samples => decide (1 ≤ samples.length ∧ samples.length ≤ 8) && samples.all fun x => decide (x < 1024)
  | .identify _ _ args | .read _ _ args | .status _ _ args | .editOpen _ _ args | .editPut _ _ args
  | .editAbandon _ _ args | .editCommit _ _ args => argsFit 2 args
  | .select _ _ args | .nextScene _ _ args | .prevScene _ _ args | .nextSong _ _ args | .prevSong _ _ args
  | .apply _ _ args | .cancelSwitch _ _ args | .engageOverlay _ _ args | .releaseOverlay _ _ args
  | .start _ _ args | .stop _ _ args | .tap _ _ args | .setTempo _ _ args | .panic _ _ args
  | .histogramEnable _ _ args | .histogramClear _ _ args | .clearStats _ _ args | .clearFault _ _ args
  | .saveImage _ _ args | .restart _ _ args => argsFit 3 args
  | .frameNotRouted _ f => Frame.accepted f && Frame.kind f != 12 && Frame.kind f != 13
  | .unknownRequestCode _ code _ args => argsFit 2 args && !knownCode code args
  | .powerOn | .loadTimeout | .frameReceived _ _ | .silenceTimerExpiry _ | .followSilenceTimerExpiry
  | .transmitStart _ | .frameTransmitted _ | .presenceTimerExpiry _ | .recallFeed _ | .settleTimerExpiry _
  | .drainMove _ | .lateTimerExpiry _ | .tableFullTimerExpiry | .pulse | .beatBoundary
  | .footswitchPress _ _ | .footswitchRelease _ _ | .panicHoldTimerExpiry _ | .editSlotTimeout _
  | .saveTimeout | .footswitchSample _ _ _ => true

end Sys2Proof
end

