-- ==== Sys2Proof/Certificates/Slice0/Obligations.lean ====
section
/-! DEFINITION. The statements for the provers. Each names in its docstring the rules of spec/ it rests on, and the
model choice (log entry) it leans on where it does. -/
open Sys2Proof Sys2Proof.Machine

/-! ### Steps, laws and invariants -/

/-- One step runs the command at the front of the queue on the state with the queue's rest. -/
def Obligations.StepRunsFrontCommand : Prop :=
  ∀ (c : Instr) (rest : List Instr) (s : State),
    step { s with pending := c :: rest } = exec c { s with pending := rest }

/-- The model's choice (log entry 1): with no command waiting and no event due, a microsecond passes, in which the
accumulator gains the applied increment unless the transport is STOPPED (R130). With events due, one of them becomes
the waiting command (log entry 3): any that stands at this instant, or the arbiter's next grant (R7,
DeliveredFramesLeaveTheirFifo). Before either, a sample of an enabled pedal that falls due (R167) joins its history,
as a free value of 10 bits, unless it is the eighth, whose evaluation is an event (log entry 18). -/
def Obligations.IdleStepLetsTimeOrAnEventIn : Prop :=
  (∀ (s : State) (c : Instr), c ∈ s.due ↔ s.stands c ∨ s.nextGrant = some c) ∧
  ∀ s : State, s.pending = [] →
    let quiet := s.samplesDue false = []
    (quiet → s.due = [] → s.beat.transport = .stopped → step s = .next { s with now := s.now + 1 }) ∧
    (quiet → s.due = [] → s.beat.transport ≠ .stopped → ∃ t, step s = .next t ∧ t.now = s.now + 1 ∧
      t.beat.fraction < 268435456 ∧
      t.beat.fraction + 268435456 * t.beat.owed = s.beat.fraction + s.beat.applied + 268435456 * s.beat.owed ∧
      { t with now := s.now, beat := { t.beat with fraction := s.beat.fraction, owed := s.beat.owed } } = s) ∧
    (quiet → s.due ≠ [] → ∃ t c, step s = .next t ∧ t.pending = [c] ∧ c ∈ s.due ∧
      { t with pending := [], drawn := s.drawn } = s) ∧
    (∀ p r, s.samplesDue false = p :: r → let x := s.pedal p
      (s.part = .ready ∧ Record.flag (s.store.get .pedal p) 0 0 = true ∧ x.next ≤ s.now ∧ x.phase < 7) ∧
      ∃ t v, step s = .next t ∧ v < 1024 ∧
        t.pedal p = { x with
          history := (x.history ++ [v]).drop (x.history.length - 7), phase := x.phase + 1, next := x.next + 1000 } ∧
        (∀ q : Fin 4, q ≠ p → t.pedal q = s.pedal q) ∧ { t with pedals := s.pedals, drawn := s.drawn } = s)

/-- No command is refused, none touches the queue of waiting commands, and every well-formed one completes. -/
def Obligations.WellFormedCommandsComplete : Prop :=
  ∀ (c : Instr) (s : State),
    (c.wf = true → ∃ t, exec c s = .next t) ∧
    (∀ t, exec c s = .next t → t.pending = s.pending) ∧
    (∀ r, exec c s ≠ .refused r)

/-- The laws hold of the part right after power-on. What they say of the store (every record valid and at its
length, scene tempos 0 or in range, a set length of 0 while LOADING) holds there because the model keeps the
defaults in the store while LOADING, where the spec gives it no contents: the model's choice, log entry 10 (DESIGN
CHOICE, unsafe). -/
def Obligations.ResetMeetsTheLaws : Prop :=
  State.reset.Within ∧ State.reset.NotesLaw ∧ State.reset.CopiesLaw ∧ State.reset.TempoLaw ∧ State.reset.BeatLaw ∧
    State.reset.SwitchLaw ∧ State.reset.RecordsLaw ∧ State.reset.QuietLaw ∧ State.reset.Counted

/-- R6, R34, R41, R65, R67, R69, R70, R76, R91 to R93, R100, R120, R136, R167, R171: no step fills a collection
beyond its capacity: receive FIFOs, real-time lists, output and deferral queues, recall lists, release sets, the
held-note table and its entries' copies, the wait set, the live copy's zones, recall entries and overlays, the
engaged overlay list, the tap intervals, the pedals' samples, the event list. It rests on the note laws, which keep
the store's scene records valid and the copies' channels and keys in range. R89, R182 to R184, R188: every step
keeps every record valid and at its length, and the image of every OPEN edit slot as long as its record. R105: every
step keeps an armed request to ARMED, a queued request, recalling target and wait set to RECALLING, and both states
to a set length above 0. That the records are valid and the set length is 0 while LOADING too, across POWER_ON among
others, is the model's choice: the store then holds the defaults, log entry 10 (DESIGN CHOICE, unsafe). -/
def Obligations.StepKeepsCapacities : Prop :=
  (∀ s t : State, s.NotesLaw → s.Within → step s = .next t → t.Within) ∧
  (∀ s t : State, s.RecordsLaw → step s = .next t → t.RecordsLaw) ∧
  ∀ s t : State, s.RecordsLaw → s.SwitchLaw → step s = .next t → t.SwitchLaw

/-- R41, R43, R44: every step keeps the laws of the held-note table, of the destination count map and of the hold
flags. (The laws take in that the store's scene records are valid, which after POWER_ON rests on the defaults that
the model holds while LOADING: log entry 10.) -/
def Obligations.StepKeepsNoteLaws : Prop :=
  ∀ s t : State, s.NotesLaw → step s = .next t → t.NotesLaw

/-- R42: every step keeps each PENDING copy with its one waiting NOTE_ON, and each waiting NOTE_ON with its PENDING
copy. It rests on the note laws and on R82, by which only an UP MODULE link holds a waiting NOTE_ON. -/
def Obligations.StepKeepsWaitingNotesOwned : Prop :=
  ∀ s t : State, s.NotesLaw → s.CopiesLaw → s.QuietLaw → step s = .next t → t.CopiesLaw

/-- R128, R129: every step keeps T in 3000 to 30000 and the applied increment in 30,601 to 338,229, the bounds that
INC(T) and the corrections give. R130 to R132, R141: every step keeps the pulse in 0 to 239, the fraction below
2^28, the beat index below the beats per bar, these at 16 at most, the bar number in its range, and the transport
STOPPED while LOADING. The model's choice (log entries 1 and 2): at most one advance is owed. (That the store's
scene tempos are 0 or in range after POWER_ON rests on the defaults that the model holds while LOADING: log entry
10.) -/
def Obligations.StepKeepsTempoInRange : Prop :=
  (∀ s t : State, s.TempoLaw → step s = .next t → t.TempoLaw) ∧
  (∀ s : State, s.TempoLaw → 3000 ≤ s.beat.tempo ∧ s.beat.tempo ≤ 30000 ∧
    32212 ≤ inc s.beat.tempo ∧ inc s.beat.tempo ≤ 322123 ∧
    30601 ≤ s.beat.applied ∧ s.beat.applied ≤ 338229) ∧
  ∀ s t : State, s.RecordsLaw → s.SwitchLaw → s.TempoLaw → s.BeatLaw → step s = .next t → t.BeatLaw

/-- R82, R13: every step keeps quiet the links that are DOWN or neither MODULE nor CLICK, and keeps the destination
counts of a link that is DOWN or not MODULE at 0. It rests on the note laws, which keep every copy's channel and key
in range. -/
def Obligations.StepKeepsQuietLinksQuiet : Prop :=
  ∀ s t : State, s.NotesLaw → s.QuietLaw → step s = .next t → t.QuietLaw

/-- R85: no statistics counter and no histogram bin decreases, except by its clear command or by power-on, and each
stops at its maximum. -/
def Obligations.CountersOnlyRise : Prop :=
  ∀ (c : Instr) (s t : State), s.Counted → exec c s = .next t → t.Counted ∧
    (c ≠ .powerOn → (∀ l tag args, c ≠ .clearStats l tag args) →
      ∀ i, s.eventCounters.getD i 0 ≤ t.eventCounters.getD i 0) ∧
    (c ≠ .powerOn → (∀ l tag args, c ≠ .histogramClear l tag args) →
      ∀ i, s.binCounts.getD i 0 ≤ t.binCounts.getD i 0)

/-! ### Frames and the image -/

/-- R2 to R4, R191: a frame with accepted values, sent as its bytes, is judged valid and read back whole; and a
valid run that holds an accepted frame is that frame's bytes, so no two frames share a run. -/
def Obligations.SentFramesAreReadBack : Prop :=
  (∀ (f : Frame) (a : Nat), Frame.accepted f = true →
    Run.valid ⟨Frame.bytes f, false, a⟩ = true ∧ Run.frame ⟨Frame.bytes f, false, a⟩ = some f) ∧
  (∀ (r : Run) (f : Frame), Run.valid r = true → Run.frame r = some f →
    Frame.accepted f = true ∧ r.bytes = Frame.bytes f)

/-- R20, R92 to R94, R97, R98, R167, R172, R184: the validation of an edit commit and of an image finds the first
offset at which a field of the record breaks its rule, judged in the whole store, and finds none exactly when every
field keeps its rule. A pair out of order fails at its second field (R94), a cue out of order at its bar (R97), a
test across records at the field that R184 names. (The start-up song's field, and the bits and bytes that no rule
tests: log entries 20, 21 and 41. That the test of the follow enable, 0 or 1, is one of its whole flags byte: log
entry 51.) -/
def Obligations.ValidationNamesTheFirstFault : Prop :=
  ∀ s : Store,
    (∀ (t : Table) (i : Nat), i < Table.size t →
      (s.check t i = none ↔ ∀ off, ¬ s.fault t i off) ∧
      (∀ off, s.check t i = some off ↔ s.fault t i off ∧ ∀ o, o < off → ¬ s.fault t i o)) ∧
    (s.allValid = true ↔ ∀ (t : Table) (i : Nat), i < Table.size t → ∀ off, ¬ s.fault t i off)

/-- R187: the image of a store is 35,990 bytes, its sum is right, and the store is read back from it whole. (That
the four bytes of the sum stand high byte first is the model's choice, log entry 43.) -/
def Obligations.ImageHoldsTheWholeStore : Prop :=
  ∀ s : Store, s.Shaped → s.image.length = 35990 ∧ imageSumOk s.image = true ∧ Store.ofImage s.image = s

/-! ### Arithmetic -/

/-- R26: the out velocity is v × scale + 32, ÷ 64, floor, plus the offset, limited to 1 to 127; scale 64 with offset
0 leaves velocity as it is. -/
def Obligations.VelocityIsScaledAndLimited : Prop :=
  ∀ (z : Zone) (v : Nat),
    (1 ≤ z.outVel v ∧ z.outVel v ≤ 127) ∧
    (∀ k : Nat, (k : Int) = ((v * z.scale + 32) / 64 : Nat) + z.offset → 1 ≤ k → k ≤ 127 → z.outVel v = k) ∧
    (((v * z.scale + 32) / 64 : Nat) + z.offset < 1 → z.outVel v = 1) ∧
    (((v * z.scale + 32) / 64 : Nat) + z.offset > 127 → z.outVel v = 127) ∧
    (z.scale = 64 → z.offset = 0 → 1 ≤ v → v ≤ 127 → z.outVel v = v)

/-- R45: a PENDING copy is withdrawn and posts nothing; a SENT one posts its pair when, and only when, its count has
fallen to 0 (also when the last of several holders is PENDING and a SENT one has gone before it: the model's
reading, log entry 49). Either way the count falls by one. R69: a posted pair joins the release set, which stays in
ascending order, and one that is in the set already keeps its velocity; R82: for a link that is not an UP MODULE
link it is disposed of (uncounted, log entry 35). R74: a withdrawal takes the NOTE_ON of that copy, and no other,
from the queue in which it waits, and is counted. -/
def Obligations.ReleasingACopy : Prop :=
  (∀ (s : State) (c : Copy) (vel n : Nat), s.destCount c.link c.ch c.key = n + 1 →
    let g := s.setCount c.link c.ch c.key n
    (c.state = .pending → State.releaseCopy vel s c = g.withdraw c.link c.id) ∧
    (c.state = .sent → 0 < n → State.releaseCopy vel s c = g) ∧
    (c.state = .sent → n = 0 → State.releaseCopy vel s c = g.post c.link c.ch c.key vel)) ∧
  (∀ (s : State) (l : Fin 12) (ch key v : Nat), let k := s.link l
    let at' := 128 * ch + key
    (k.up = false ∨ k.role ≠ .module → s.post l ch key v = s) ∧
    (k.up = true → k.role = .module → k.release.rising = true →
      ((∃ p ∈ k.release, p.1 = at') → s.post l ch key v = s) ∧
      ((∀ p ∈ k.release, p.1 ≠ at') → s.post l ch key v = s.setLink l { k with
        release := k.release.filter (·.1 < at') ++ (at', v) :: k.release.filter (at' < ·.1) }))) ∧
  ∀ (s : State) (l : Fin 12) (id : Nat) (w : Waiting) (before behind : List Waiting), let k := s.link l
    let counted := { k.out with withdrawals := bump k.out.withdrawals 1 }
    w.copy = some id → (∀ x ∈ before ++ behind, x.copy ≠ some id) →
    (k.queue = before ++ w :: behind → (∀ x ∈ k.deferral, x.copy ≠ some id) →
      s.withdraw l id = s.setLink l { k with queue := before ++ behind, out := counted }) ∧
    (k.deferral = before ++ w :: behind → (∀ x ∈ k.queue, x.copy ≠ some id) →
      s.withdraw l id = s.setLink l { k with deferral := before ++ behind, out := counted })

/-! ### Power-on, the image and saves -/

/-- The values that the chapters give for power-on: R7, R19, R34, R41, R44, R65, R105, R141, R142, R155, R182, R188,
and every event counter 0 but those of the first PRESENCE frames; and POWER_ON gives the part these values whatever
it held. (The PRESENCE frame on every line, counted as sent, is the model's reading of "at once", log entry 9; the
empty event list, which R171 gives at READY, the last load NONE and the settle start 0 of the closed windows are
values of log entry 27; the defaults that the store holds while LOADING are log entry 10, with the bytes of their
unused places log entry 37; the queue of waiting commands and the count of free values drawn are the model's own and
stay, log entry 11.) -/
def Obligations.PowerOnGivesThePowerOnValues : Prop :=
  (∀ s : State, exec .powerOn s = .next { State.reset with pending := s.pending, drawn := s.drawn }) ∧
  let s := State.reset
  s.part = .loading ∧ s.pointer = 12 ∧ s.engaged = [] ∧ s.counting = false ∧ s.events = [] ∧
  (∀ l : Fin 12, let k := s.link l
    k.up = false ∧ k.silence = none ∧ k.fifo = [] ∧ k.role = .unused ∧ k.rights = .full ∧ k.farEnd = none ∧
    k.realTime = [] ∧ k.silenceFlag = false ∧ k.release = [] ∧ k.queue = [] ∧ k.deferral = [] ∧ k.window = {} ∧
    k.late = none ∧ k.onLine.map (·.frame) = some (.presence .unused .loading) ∧
    k.ctr.sent = 1 ∧ k.ctr.presenceSent = 1 ∧
    (∀ n ∈ { k with ctr := { k.ctr with sent := 0, presenceSent := 0 } }.counters, n = 0) ∧
    ∀ b : Fin 8, bankGet k.bins b { count := 1, saturated := true } = { count := 0, saturated := false }) ∧
  s.tracker.table = [] ∧ s.tracker.counts = [] ∧ s.tracker.holds = [] ∧ s.tracker.tableFull = none ∧
  s.switch.state = .idle ∧ s.switch.position = ⟨0, 0⟩ ∧ s.switch.armed = none ∧ s.switch.queued = none ∧
  s.switch.recalling = none ∧ s.switch.waitSet = [] ∧ s.switch.differs = false ∧
  s.switch.live.ident = none ∧ s.switch.live.zones = [] ∧ s.switch.live.recalls = [] ∧ s.switch.live.overlays = [] ∧
  s.beat.tempo = 12000 ∧ s.beat.applied = 128849 ∧ s.beat.pulse = 0 ∧ s.beat.fraction = 0 ∧ s.beat.index = 0 ∧
  s.beat.bar = 1 ∧ s.beat.current = 4 ∧ s.beat.pending = 4 ∧ s.beat.ramp = none ∧ s.beat.lastTap = none ∧
  s.beat.taps = [] ∧ s.beat.transport = .stopped ∧ s.beat.startPending = false ∧ s.beat.segueMark = false ∧
  s.beat.countIn = 0 ∧ s.beat.inForce = s.beat.handed ∧
  s.beat.handed = { accents := [3, 2, 2, 2, 2, 2, 2, 2, 2, 2, 2, 2, 2, 2, 2, 2], subdivision := 1, level := 0 } ∧
  s.follow.state = .off ∧ s.follow.lastArrival = none ∧ s.follow.lastInterval = none ∧
  s.follow.lastEstimate = none ∧ s.follow.good = 0 ∧ s.follow.outlierRun = 0 ∧ s.follow.limit = none ∧
  s.follow.correction = none ∧
  (∀ n : Fin 4, s.slot n = none) ∧ s.mgmt.fault = none ∧ s.mgmt.later = 0 ∧ s.mgmt.save = none ∧
  s.mgmt.lastLoad = .none ∧ s.mgmt.lastSave = .none ∧
  ∀ n ∈ { s with links := Vector.replicate 12 {} }.eventCounters, n = 0

/-- R188, R19, R104: a read that has not completed in 300 ms gives the store its defaults and the part becomes
READY; the IMAGE notice goes to link 0 if that link is UP, and no scene is committed. (Instants: log entry 2. The
instant of a pedal's first sample is log entry 18; footswitches that stand RELEASED with no level until their first
sample are log entries 17 and 27; the bytes of the unused places of the default records are log entry 37.) -/
def Obligations.LoadTimeoutAppliesTheDefaults : Prop :=
  ∀ s : State, s.part = .loading → ∃ t, exec .loadTimeout s = .next t ∧
    t.part = .ready ∧ t.store = Store.defaults ∧ t.now = max s.now s.loadBy ∧ t.mgmt.lastLoad = .failed ∧
    (∀ l : Fin 12, (t.link l).role = (if l = 0 then .source else .unused) ∧
      (t.link l).rights = (if l = 0 then .full else .none)) ∧
    t.follow.state = .off ∧ t.pedals = Vector.replicate 4 { next := t.now + 1000 } ∧
    t.foots = Vector.replicate 4 {} ∧ t.events = [] ∧
    t.switch = s.switch ∧ t.tracker = s.tracker ∧ t.router = s.router ∧ t.engaged = s.engaged ∧
    ((s.link 0).up = true → (s.link 0).queue.length < 64 →
      (t.link 0).queue = (s.link 0).queue ++ [noticeFrame (.image false .failed .noFlash) t.now])

/-- R188, R19, R104: an image read in time gives the store its records when its sum is right and every record is
valid, and the defaults otherwise; links take their roles and rights, and the start-up commit follows. A failed load
raises the IMAGE notice with its reason, which goes to link 0, the report link of the defaults; a good one raises
none. (The sum is judged first, log entry 48; its four bytes stand high byte first, log entry 43; an image of
another length has a wrong one, log entry 23; a valid record is one that ValidationNamesTheFirstFault says is, log
entry 51 among others; the unused places of the defaults are log entry 37. Instants: log entry 2. The instant of a
pedal's first sample is log entry 18; footswitches that stand RELEASED with no level until their first sample, and
the empty event list, are log entries 17 and 27. While LOADING every link is quiet: StepKeepsQuietLinksQuiet.) -/
def Obligations.ImageLoadDoneMakesThePartReady : Prop :=
  ∀ (s : State) (instant : Nat) (image : List Byte), s.QuietLaw → s.part = .loading → s.now ≤ s.loadBy →
    instant ≤ s.loadBy →
    ∃ t, exec (.imageLoadDone instant image) s = .next t ∧ t.part = .ready ∧ t.now = max s.now instant ∧
      (imageSumOk image = true ∧ (Store.ofImage image).allValid = true →
        t.store = Store.ofImage image ∧ t.mgmt.lastLoad = .ok) ∧
      (¬(imageSumOk image = true ∧ (Store.ofImage image).allValid = true) →
        t.store = Store.defaults ∧ t.mgmt.lastLoad = .failed) ∧
      (∀ l : Fin 12, (t.link l).role = Role.ofCode (u8At (t.store.get .link l) 0) ∧
        (t.link l).rights = Rights.ofCode (u8At (t.store.get .link l) 1) ∧ (t.link l).up = (s.link l).up ∧
        ((t.link l).up = true → (t.link l).role = .module → (t.link l).silenceFlag = true)) ∧
      (let good := imageSumOk image = true ∧ (Store.ofImage image).allValid = true
       (¬ good → (s.link 0).up = true → (s.link 0).queue.length < 64 →
         (t.link 0).queue = (s.link 0).queue ++
           [noticeFrame (.image false .failed (if imageSumOk image then .badRecord else .badSum)) t.now]) ∧
       (¬ good → ∀ l : Fin 12, l ≠ 0 → (t.link l).queue = (s.link l).queue) ∧
       (good → ∀ l : Fin 12, ∀ w ∈ (t.link l).queue, w ∈ (s.link l).queue ∨
         ∀ result reason, w.frame ≠ (Notice.image false result reason).frame)) ∧
      t.pedals = Vector.replicate 4 { next := t.now + 1000 } ∧ t.foots = Vector.replicate 4 {} ∧ t.events = [] ∧
      t.follow.state = (if t.store.followEnable then .seek else .off) ∧
      (t.store.setLength = 0 → t.switch = s.switch) ∧
      (t.store.setLength ≠ 0 → t.switch.position = ⟨t.store.startSong, 0⟩ ∧
        t.switch.live.ident.map (fun i => (i.song, i.scene)) = some (t.store.startSong, 0))

/-- R189: the save ends when the readback has been checked in time, or at its limit; the IMAGE notice says how, and
the store stays as it is. (The readback is the command's operand, log entry 22, judged by its sum, whose bytes and
length are log entries 43 and 23. Instants: log entry 2; `a` is the state at the end's instant.) -/
def Obligations.SavesEndWithTheirResult : Prop :=
  ∀ (s : State) (v : Save), s.mgmt.save = some v →
    (∀ (instant : Nat) (image : List Byte), s.now ≤ v.expires → instant ≤ v.expires →
      let a := s.runTo instant
      exec (.saveDone instant image) s = .next (if imageSumOk image then
          { a with mgmt := { a.mgmt with save := none, lastSave := .ok } }.raise (.image true .ok .none)
        else { a with mgmt := { a.mgmt with save := none, lastSave := .failed } }.raise (.image true .failed .badSum))) ∧
    let a := s.runTo v.expires
    exec .saveTimeout s = .next
      ({ a with mgmt := { a.mgmt with save := none, lastSave := .failed } }.raise (.image true .failed .noFlash))

/-! ### Replies and notices -/

/-- R71, R73, R177: a reply or notice joins the tail of its link's output queue with its entry instant; when the
link is not UP or the queue holds 64 frames, it is dropped and counted. R186: a notice is offered to the report
link's output queue when that link is UP and the part is READY, and is otherwise dropped and counted. R177, R191: an
answer is one MGMT_REPLY frame, with the request's code and tag, the status's code and the data, counted as answered
and offered to the link that asked. -/
def Obligations.RepliesAndNoticesAreQueuedOrCounted : Prop :=
  (∀ (s : State) (l : Fin 12) (f : Frame), let k := s.link l
    (k.up = true → k.queue.length < 64 → s.placeReply l f =
      s.setLink l { k with queue := k.queue ++ [{ frame := f, entry := s.now, copy := none, fromRecall := false }] }) ∧
    (k.up = false ∨ 64 ≤ k.queue.length → s.placeReply l f =
      s.setLink l { k with out := { k.out with droppedReplies := bump k.out.droppedReplies 1 } })) ∧
  (∀ (s : State) (n : Notice),
    (s.part = .ready → (s.link s.store.reportLink).up = true →
      s.raise n = s.placeReply s.store.reportLink n.frame) ∧
    (s.part = .loading ∨ (s.link s.store.reportLink).up = false →
      s.raise n = { s with mgmt := { s.mgmt with ctr :=
        { s.mgmt.ctr with noticesDropped := bump s.mgmt.ctr.noticesDropped 1 } } })) ∧
  ∀ (s : State) (l : Fin 12) (code tag : Byte) (data : List Byte), ∀ p ∈ ([(.ok, 0), (.busy, 1), (.denied, 2),
      (.badRequest, 3), (.range, 4), (.noSlot, 5), (.notOwner, 6), (.stale, 7), (.invalid, 8), (.endOfSet, 9),
      (.noSet, 10), (.following, 11)] : List (Status × Byte)),
    s.reply l code tag ⟨p.1, data⟩ = { s with mgmt := { s.mgmt with ctr :=
      { s.mgmt.ctr with answered := bump s.mgmt.ctr.answered 1 } } }.placeReply l (.mgmtReply code tag p.2 data)

/-! ### The receive side and the transmitter of a link -/

/-- R2 to R6: what becomes of a run of bytes on an UP link, judged 20 µs after its arrival: a bad frame is only
counted; any valid one restarts the silence timer; a malformed one is counted; an accepted one is counted and
recorded (PRESENCE), or joins the receive FIFO with its arrival time, or overflows. (`a` is the state at that
instant: log entry 2.) -/
def Obligations.RunsOnAnUpLinkAreJudged : Prop :=
  ∀ (l : Fin 12) (r : Run) (s : State),
    let a := s.runTo (r.arrival + 20)
    (a.link l).up = true →
    let k : Link := { a.link l with silence := some (a.now + 300000) }
    let accepted := { k.ctr with accepted := bump k.ctr.accepted 1 }
    (Run.valid r = false → exec (.frameReceived l r) s =
      .next (a.setLink l { a.link l with ctr := { k.ctr with bad := bump k.ctr.bad 1 } })) ∧
    (Run.valid r = true → Run.frame r = none → exec (.frameReceived l r) s =
      .next (a.setLink l { k with ctr := { k.ctr with malformed := bump k.ctr.malformed 1 } })) ∧
    (∀ role part, Run.valid r = true → Run.frame r = some (.presence role part) → exec (.frameReceived l r) s =
      .next (a.setLink l { k with ctr := accepted, farEnd := some (role, part) })) ∧
    (∀ f, Run.valid r = true → Run.frame r = some f → Frame.kind f ≠ 12 → k.fifo.length < 16 →
      exec (.frameReceived l r) s =
        .next (a.setLink l { k with ctr := accepted, fifo := k.fifo ++ [⟨f, r.arrival⟩] })) ∧
    (∀ f, Run.valid r = true → Run.frame r = some f → Frame.kind f ≠ 12 → 16 ≤ k.fifo.length →
      exec (.frameReceived l r) s =
        .next (a.setLink l { k with ctr := { accepted with overflows := bump k.ctr.overflows 1 } }))

/-- R3, R11, R76: a bad frame on a DOWN link is only counted; a valid one brings the link UP, raises LINK_UP and, on
a MODULE link while READY, sets the SILENCE flag and opens a window when the live copy recalls the link. Then the
frame itself is judged as on an UP link (R4 to R6): malformed and counted, or counted as accepted and recorded
(PRESENCE), queued with its arrival time, or an overflow. (`a` is the state at that instant: log entry 2.) -/
def Obligations.FirstValidFrameBringsALinkUp : Prop :=
  ∀ (l : Fin 12) (r : Run) (s : State),
    let a := s.runTo (r.arrival + 20)
    (a.link l).up = false →
    (Run.valid r = false → exec (.frameReceived l r) s = .next (a.setLink l
      { a.link l with ctr := { (a.link l).ctr with bad := bump (a.link l).ctr.bad 1 } })) ∧
    (Run.valid r = true → ∃ u : State,
      (let k := u.link l
       let accepted := { k.ctr with accepted := bump k.ctr.accepted 1 }
       let judged (k : Link) : Prop := exec (.frameReceived l r) s = .next (u.setLink l k)
       (Run.frame r = none → judged { k with ctr := { k.ctr with malformed := bump k.ctr.malformed 1 } }) ∧
       (∀ role part, Run.frame r = some (.presence role part) →
         judged { k with ctr := accepted, farEnd := some (role, part) }) ∧
       (∀ f, Run.frame r = some f → Frame.kind f ≠ 12 → k.fifo.length < 16 →
         judged { k with ctr := accepted, fifo := k.fifo ++ [⟨f, r.arrival⟩] }) ∧
       (∀ f, Run.frame r = some f → Frame.kind f ≠ 12 → 16 ≤ k.fifo.length →
         judged { k with ctr := { accepted with overflows := bump k.ctr.overflows 1 } })) ∧
      (u.link l).up = true ∧ (u.link l).silence = some (a.now + 300000) ∧ (u.link l).role = (a.link l).role ∧
      (u.link l).fifo = (a.link l).fifo ∧ (u.link l).ctr = (a.link l).ctr ∧ (u.link l).farEnd = (a.link l).farEnd ∧
      ((a.link l).role = .module → a.part = .ready → (u.link l).silenceFlag = true ∧
        (a.recallsFor l ≠ [] → (u.link l).window.state = .sending) ∧
        (a.recallsFor l = [] → (u.link l).window = (a.link l).window)) ∧
      ((a.link l).role ≠ .module ∨ a.part = .loading →
        (u.link l).silenceFlag = (a.link l).silenceFlag ∧ (u.link l).window = (a.link l).window) ∧
      (∀ p : Fin 12, a.store.reportLink = p → a.part = .ready → (p = l ∨ (a.link p).up = true) →
        (a.link p).queue.length < 64 → noticeFrame (.linkUp l) a.now ∈ (u.link p).queue) ∧
      { u with links := a.links, mgmt := a.mgmt } = a)

/-- R12, R13, R46, R58, R59, R81, R82, R182: 300 ms without a valid frame take an UP link DOWN: its FIFO is flushed
and counted, LINK_LOST is raised, the entries of a lost SOURCE are released whole with release velocity 64, or the
copies and counts of a lost MODULE go without a release, the section is emptied, and the edit slots are freed. Then
the note tracker reports when an entry was removed, and the section when a window in SENDING or SETTLING was closed
(RequestsWaitForTheirGates and SettlingEndsAndReports say what those reports do). (`a` is the state at that instant:
log entry 2; the reports after the whole loss: log entry 16.) -/
def Obligations.SilenceTakesALinkDown : Prop :=
  ∀ (l : Fin 12) (s : State) (d : Nat), (s.link l).up = true → (s.link l).silence = some d →
    let a := s.runTo d
    let k := a.link l
    let gone (e : Entry) : Bool := match k.role with
      | .source => e.src == l.val
      | .module => e.state == .sustained && e.copies.all (·.link == l.val)
      | _ => false
    let down := a.setLink l { k with
      up := false, silence := none, fifo := []
      ctr := { k.ctr with losses := bump k.ctr.losses 1, flushed := bump k.ctr.flushed k.fifo.length } }
    let told := down.raise (.linkLost l)
    let freed := ((a.tracker.table.filter gone).flatMap (·.copies)).foldl (State.releaseCopy 64) told
    let parted : State := match k.role with
      | .source => { freed with tracker := { freed.tracker with
          table := a.tracker.table.filter fun e => !gone e
          holds := a.tracker.holds.filter fun h => h.1 / 32 != l.val } }
      | .module => { told with tracker := { told.tracker with
          table := (a.tracker.table.map fun e => { e with copies := e.copies.filter (·.link != l.val) }).filter
            fun e => !(e.state == .sustained && e.copies.isEmpty)
          counts := a.tracker.counts.filter fun c => c.1 / 4096 != l.val } }
      | _ => told
    let cleared (k : Link) : Link := { k with
      realTime := [], silenceFlag := false, release := [], queue := [], deferral := [], window := {}
      onLine := k.onLine.map fun o => { o with fromRecall := false } }
    (∃ u : State, { u with mgmt := { u.mgmt with slots := a.mgmt.slots } } =
        parted.setLink l (cleared (parted.link l)) ∧
      (∀ n : Fin 4, u.slot n = (a.slot n).filter fun x => x.owner != l.val) ∧
      exec (.silenceTimerExpiry l) s = .next (
        let v := if a.tracker.table.any gone then u.releaseReport else u
        if k.window.state = .sending ∨ k.window.state = .settling then v.windowReport l else v)) ∧
    ∃ t, exec (.silenceTimerExpiry l) s = .next t ∧ t.now = a.now ∧
      (let k := t.link l
       k.up = false ∧ k.silence = none ∧ k.fifo = [] ∧ k.role = (a.link l).role ∧ k.realTime = [] ∧
       k.silenceFlag = false ∧ k.release = [] ∧ k.queue = [] ∧ k.deferral = [] ∧ k.window = {} ∧
       k.ctr.losses = bump (a.link l).ctr.losses 1 ∧
       k.ctr.flushed = bump (a.link l).ctr.flushed (a.link l).fifo.length) ∧
      (∀ (n : Fin 4) (x : Slot), t.slot n = some x → x.owner ≠ l) ∧
      ((a.link l).role = .source → (∀ e ∈ t.tracker.table, e.src ≠ l) ∧
        ∀ ch, ch < 32 → t.tracker.holds.read (holdAddr l ch) = 0) ∧
      ((a.link l).role = .module →
        (∀ c ∈ t.tracker.copies, c.link ≠ l) ∧ (∀ e ∈ t.tracker.table, e.state = .sustained → e.copies ≠ []) ∧
        ∀ ch key, ch < 32 → key < 128 → t.destCount l ch key = 0) ∧
      t.store = a.store

/-- R66, R68, R69, R75, R16, R17: a free transmitter takes the head of the real-time list, else SILENCE, else the
smallest pair of the release set, else the head of the output queue, whose NOTE_ON's copy becomes SENT (its wait is
counted, HistogramCountsWaits). Each start restarts the presence timer and counts one frame sent, at its start (log
entry 25). With nothing waiting, nothing starts (log entry 4). (`a` is the state at the start's instant: log entry
2.) -/
def Obligations.TransmitterTakesSourcesInOrder : Prop :=
  ∀ (l : Fin 12) (s : State), (s.link l).onLine = none →
    let waits (k : Link) : Prop := k.realTime ≠ [] ∨ k.silenceFlag = true ∨ k.release ≠ [] ∨ k.queue ≠ []
    let a := s.runTo (s.link l).freeAt
    let k := a.link l
    let line (k : Link) (f : Frame) (fromRecall : Bool) : Link :=
      { k with onLine := some ⟨f, a.now + 10 * Frame.size f, fromRecall⟩, freeAt := a.now + 10 * Frame.size f + 20,
               presence := a.now + 100000, ctr := { k.ctr with sent := bump k.ctr.sent 1 } }
    (waits (s.link l) →
     (∀ f r, k.realTime = f :: r →
      exec (.transmitStart l) s = .next (a.setLink l (line { k with realTime := r } f false))) ∧
     (k.realTime = [] → k.silenceFlag = true →
      exec (.transmitStart l) s = .next (a.setLink l (line { k with silenceFlag := false } (.silence 255) false))) ∧
     (∀ ch key vel r, key < 128 → k.realTime = [] → k.silenceFlag = false → k.release = (pairAddr ch key, vel) :: r →
      exec (.transmitStart l) s = .next (a.setLink l (line { k with release := r } (.noteOff ch key vel) false))) ∧
     (∀ w r, k.realTime = [] → k.silenceFlag = false → k.release = [] → k.queue = w :: r → ∃ t,
      exec (.transmitStart l) s = .next t ∧
      { t.link l with queue := r, bins := k.bins, late := k.late, out := k.out } =
        line { k with queue := r } w.frame w.fromRecall ∧
      (a.store.reportLink ≠ l → (t.link l).queue = r ∧ (t.link l).out = k.out) ∧
      (∀ p : Fin 12, p ≠ l → a.store.reportLink ≠ p → t.link p = a.link p) ∧
      (∀ id, w.copy = some id → t.tracker.table =
        a.tracker.table.map fun e => { e with copies := e.copies.map (Copy.markSent id) }) ∧
      (w.copy = none → t.tracker = a.tracker) ∧ t.switch = a.switch)) ∧
    (¬ waits (s.link l) → exec (.transmitStart l) s = .next s)

/-- R85, R86: a frame taken from the output queue while its link is counted adds one to the bin of its wait, a bin
at 4,294,967,295 keeping its count and taking its saturation flag, and raises LATE when the bin is in the alert mask
and the link's alert timer is stopped; an uncounted one changes neither bins nor timer. The bins hold waits from 0,
100, 200, 400, 800, 1600, 3200 and 6400 µs on. (`a` is the state at the start's instant: log entry 2.) -/
def Obligations.HistogramCountsWaits : Prop :=
  (∀ wait : Nat, (waitBin wait = 0 ∧ wait < 100) ∨ (waitBin wait = 7 ∧ 6400 ≤ wait) ∨
    (∃ b, b < 6 ∧ waitBin wait = b + 1 ∧ 100 * 2 ^ b ≤ wait ∧ wait < 100 * 2 ^ (b + 1))) ∧
  ∀ (l : Fin 12) (s : State) (w : Waiting) (r : List Waiting), (s.link l).onLine = none → (s.link l).queue ≠ [] →
    let a := s.runTo (s.link l).freeAt
    let k := a.link l
    k.realTime = [] → k.silenceFlag = false → k.release = [] → k.queue = w :: r →
    let b := waitBin (a.now - w.entry)
    ∃ t, exec (.transmitStart l) s = .next t ∧
      (a.counting = true → a.store.histMask l = true →
        (let x := bankGet k.bins b {}
         (x.count < 4294967295 → bankGet (t.link l).bins b {} = { x with count := x.count + 1 }) ∧
         (4294967295 ≤ x.count → bankGet (t.link l).bins b {} = { x with saturated := true })) ∧
        (∀ i, i ≠ b → bankGet (t.link l).bins i {} = bankGet k.bins i {}) ∧
        (t.link l).late = (if a.store.alertMask b = true ∧ k.late = none then some (a.now + 1000000) else k.late) ∧
        (∀ p : Fin 12, a.store.reportLink = p → p ≠ l → a.part = .ready → (a.link p).up = true →
          (a.link p).queue.length < 64 → (t.link p).queue = (a.link p).queue ++
            (if a.store.alertMask b = true ∧ k.late = none then [noticeFrame (.late l b) a.now] else []))) ∧
      (a.counting = false ∨ a.store.histMask l = false →
        (t.link l).bins = k.bins ∧ (t.link l).late = k.late)

/-- R16, R77, R78: when the frame on the line ends, the line is idle; a fed recall frame lets the window feed the
next of its list when the output queue has room, and wait for room when it has not, or enter SETTLING when the list
is out. With a settle time of 0 the window passes through SETTLING at that instant: what follows is what the end of
its settle time gives (SettlingEndsAndReports); that the report then comes before the deferred frames move is the
model's reading, log entry 14 (DEDUCED, unsafe). With no frame on the line nothing changes (log entry 4). (`a` is
the state at the end's instant: log entry 2.) -/
def Obligations.FramesEndOnTheLine : Prop :=
  ∀ (l : Fin 12) (s : State),
    ((s.link l).onLine = none → exec (.frameTransmitted l) s = .next s) ∧
    (∀ o, (s.link l).onLine = some o →
      let a := s.runTo o.ends
      let k := a.link l
      (o.fromRecall = false ∨ k.window.state ≠ .sending → ∃ t, exec (.frameTransmitted l) s = .next t ∧
        (t.link l).onLine = none ∧ (t.link l).queue = k.queue ∧ (t.link l).window.state = k.window.state ∧
        { t with links := a.links } = a ∧ ∀ m : Fin 12, m ≠ l → t.link m = a.link m) ∧
      (∀ f r, o.fromRecall = true → k.window.state = .sending → k.window.todo = f :: r → k.queue.length < 64 →
        exec (.frameTransmitted l) s = .next (a.setLink l { k with
          onLine := none,
          queue := k.queue ++ [⟨f, a.now, none, true⟩], window := { k.window with todo := r, fed := true } })) ∧
      (o.fromRecall = true → k.window.state = .sending → k.window.todo ≠ [] → 64 ≤ k.queue.length →
        exec (.frameTransmitted l) s = .next (a.setLink l { k with
          onLine := none,
          window := { k.window with fed := false } })) ∧
      (o.fromRecall = true → k.window.state = .sending → k.window.todo = [] →
        let u (w : WindowState) : State := a.setLink l { k with
          onLine := none, window := { state := w, todo := [], fed := false, since := a.now } }
        (a.store.settleTime l ≠ 0 → exec (.frameTransmitted l) s = .next (u .settling)) ∧
        (a.store.settleTime l = 0 →
          exec (.frameTransmitted l) s = exec (.drainMove l) ((u .draining).windowReport l))))

/-! ### Recall windows -/

/-- R77, R79: a window in SENDING feeds its next frame when none is outstanding and the queue has room; a DRAINING
window moves deferred frames while there is room and closes when none is left (also one whose last deferred frame a
withdrawal has taken: the model's choice, log entry 50). Otherwise nothing changes (log entry 4). -/
def Obligations.WindowsFeedAndDrain : Prop :=
  ∀ (l : Fin 12) (s : State), let k := s.link l
    (∀ f r, k.window.state = .sending → k.window.fed = false → k.window.todo = f :: r → k.queue.length < 64 →
      exec (.recallFeed l) s = .next (s.setLink l { k with
        queue := k.queue ++ [⟨f, s.now, none, true⟩], window := { k.window with todo := r, fed := true } })) ∧
    (k.window.state ≠ .sending ∨ k.window.fed = true ∨ k.window.todo = [] ∨ 64 ≤ k.queue.length →
      ∃ t, exec (.recallFeed l) s = .next t ∧ t.link l = k ∧ { t with links := s.links } = s ∧
        ∀ m : Fin 12, m ≠ l → t.link m = s.link m) ∧
    (k.window.state = .draining → exec (.drainMove l) s = .next (s.setLink l { k with
      queue := k.queue ++ (k.deferral.take (64 - k.queue.length)).map fun w => { w with entry := s.now },
      deferral := k.deferral.drop (64 - k.queue.length),
      window := if k.deferral.length ≤ 64 - k.queue.length then {} else k.window })) ∧
    (k.window.state ≠ .draining → ∃ t, exec (.drainMove l) s = .next t ∧ t.link l = k ∧
      { t with links := s.links } = s ∧ ∀ m : Fin 12, m ≠ l → t.link m = s.link m)

/-- R78, R79, R81, R121, R122: at the end of the settle time the window enters DRAINING, reports, and drains
(WindowsFeedAndDrain), in that order: that it reports before its deferred frames move, so that a queued request can
restart it before one has moved, is the model's reading, log entry 14 (DEDUCED, unsafe). A report that the switch
controller does not wait for changes nothing there, one of several leaves it waiting for the rest, and the last one
ends the recall with SWITCH_DONE. A queued request then becomes the armed one, its bar boundaries counted from 0,
and its gate is evaluated at once. (`a` is the state at the end's instant, log entry 2; a bar boundary before it may
have restarted the window, R80, whose settle time then has not ended.) -/
def Obligations.SettlingEndsAndReports : Prop :=
  (∀ (l : Fin 12) (s : State), let w := s.switch
    let left := w.waitSet.filter (· != l.val)
    (w.state ≠ .recalling ∨ l.val ∉ w.waitSet → s.windowReport l = s) ∧
    (w.state = .recalling → l.val ∈ w.waitSet → left ≠ [] →
      s.windowReport l = { s with switch := { w with waitSet := left } }) ∧
    (∀ target cause i, w.state = .recalling → l.val ∈ w.waitSet → left = [] →
      w.recalling = some (target, cause) → w.live.ident = some i →
      let ended := { s with switch := { w with
        state := .idle, recalling := none, queued := none, waitSet := [] } }.raise (.switchDone i cause)
      (w.queued = none → s.windowReport l = ended) ∧
      (∀ r, w.queued = some r →
        let armed := { ended with switch := { ended.switch with state := .armed, armed := some { r with count := 0 } } }
        let opens := r.gate = .immediate ∨ (r.gate = .atBar ∧ s.beat.transport = .stopped) ∨
          (r.gate = .atRelease ∧ ∀ e ∈ s.tracker.table, e.state ≠ .keyed)
        (opens → s.windowReport l = armed.commit r.target r.cause false) ∧
        (¬ opens → s.windowReport l = armed)))) ∧
  ∀ (l : Fin 12) (s : State), (s.link l).window.state = .settling →
    let a := s.runTo ((s.link l).window.since + s.store.settleTime l)
    let k := a.link l
    let ends := k.window.state = .settling ∧ k.window.since + s.store.settleTime l ≤ a.now
    (¬ ends → exec (.settleTimerExpiry l) s = .next a) ∧
    (ends → exec (.settleTimerExpiry l) s = exec (.drainMove l)
      ((a.setLink l { k with window := { k.window with state := .draining } }).windowReport l)) ∧
    (ends → ∃ t, exec (.settleTimerExpiry l) s = .next t ∧ t.now = a.now ∧ t.tracker = a.tracker ∧
      (a.switch.state ≠ .recalling ∨ l.val ∉ a.switch.waitSet → t.switch = a.switch ∧
        (t.link l).queue = k.queue ++ (k.deferral.take (64 - k.queue.length)).map (fun w => { w with entry := a.now }) ∧
        (t.link l).deferral = k.deferral.drop (64 - k.queue.length) ∧
        (t.link l).window.state = if k.deferral.length ≤ 64 - k.queue.length then .closed else .draining) ∧
      (a.switch.state = .recalling → l.val ∈ a.switch.waitSet → (a.switch.waitSet.filter (· != l.val)) ≠ [] →
        t.switch = { a.switch with waitSet := a.switch.waitSet.filter (· != l.val) }) ∧
      (∀ target cause i, a.switch.state = .recalling → a.switch.waitSet = [l.val] →
        a.switch.recalling = some (target, cause) → a.switch.queued = none → a.switch.live.ident = some i →
        t.switch = { a.switch with state := .idle, recalling := none, waitSet := [] } ∧
        ∀ p : Fin 12, a.store.reportLink = p → p ≠ l → a.part = .ready → (a.link p).up = true →
          (a.link p).queue.length < 64 →
          (t.link p).queue = (a.link p).queue ++ [noticeFrame (.switchDone i cause) a.now]))

/-- R17, R50, R86, R182: the presence timer sends a PRESENCE frame with the link's role and the part state, on every
link (counted as sent at its start, log entry 25); the TABLE_FULL timer and a LATE alert timer stop when they
expire; an edit slot becomes FREE, with no notice. (`a` is the state at the expiry's instant: log entry 2.) -/
def Obligations.TimersActWhenTheyExpire : Prop :=
  ∀ s : State,
    (∀ l : Fin 12, (s.link l).onLine = none →
      let a := s.runTo (s.link l).presence
      let k := a.link l
      exec (.presenceTimerExpiry l) s = .next (a.setLink l { k with
        onLine := some ⟨.presence k.role a.part, a.now + 50, false⟩, freeAt := a.now + 70,
        presence := a.now + 100000,
        ctr := { k.ctr with sent := bump k.ctr.sent 1, presenceSent := bump k.ctr.presenceSent 1 } })) ∧
    (∀ d, s.tracker.tableFull = some d → let a := s.runTo d
      exec .tableFullTimerExpiry s = .next { a with tracker := { a.tracker with tableFull := none } }) ∧
    (∀ (l : Fin 12) (d : Nat), (s.link l).late = some d → let a := s.runTo d
      exec (.lateTimerExpiry l) s = .next (a.setLink l { a.link l with late := none })) ∧
    (∀ (n : Fin 4) (x : Slot), s.slot n = some x → let a := s.runTo x.expires
      ∃ t, exec (.editSlotTimeout n) s = .next t ∧ t.slot n = none ∧ (∀ m : Fin 4, m ≠ n → t.slot m = a.slot m) ∧
      { t with mgmt := { t.mgmt with slots := a.mgmt.slots } } = a)

/-! ### Delivery, the router and the note tracker -/

/-- R7: the next grant is of the first position at which something waits, from the one after the pointer on, 12
coming before 0: the head of a link's receive FIFO, or at position 12 of the pedals' event list. It is granted as
the row of its kind where a block takes it (R8 to R10), a BEAT frame with its arrival time (R144), and as
FRAME_NOT_ROUTED where none does. R6, R7, R171: a grant moves the pointer to its position, and the granted head
leaves its FIFO or the event list. R8, R10: a delivered frame that no block takes is discarded and counted as not
routed: any performance frame while LOADING or on a link that is not SOURCE, a BEAT frame also from another link
than the follow link, and every PROGRAM, SILENCE, CLOCK, CLICK, MGMT_REPLY or NOTICE frame. (A BEAT frame is taken
at the earliest 20 µs after its arrival, the advances due before that taken: R144, log entry 2.) The model's
choices: a command may deliver a frame or an event that is not the head, which then stays (log entry 5); a delivery
of values outside R4, which no FIFO can hold, is a fault (log entry 6). -/
def Obligations.DeliveredFramesLeaveTheirFifo : Prop :=
  (∀ (s : State) (c : Instr), s.nextGrant = some c ↔ ∃ i, i < 13 ∧ s.waitingAt ((s.pointer + 1 + i) % 13) = some c ∧
    ∀ j, j < i → s.waitingAt ((s.pointer + 1 + j) % 13) = none) ∧
  (∀ (s : State) (l : Fin 12), ((s.link l).fifo = [] → s.waitingAt l = none) ∧
    ∀ r rest, (s.link l).fifo = r :: rest →
      let brings (c : Instr) : Prop := s.waitingAt l = some c
      let routed := s.part = .ready ∧ (s.link l).role = .source
      let follows := routed ∧ s.store.followLink = l.val
      (routed →
        (∀ ch key vel, r.frame = .noteOn ch key vel → brings (.noteOn l ch key vel)) ∧
        (∀ ch key vel, r.frame = .noteOff ch key vel → brings (.noteOff l ch key vel)) ∧
        (∀ ch key val, r.frame = .pressure ch key val → brings (.pressure l ch key val)) ∧
        (∀ ch num val, r.frame = .control ch num val → brings (.control l.castSucc ch num val)) ∧
        (∀ ch val, r.frame = .bend ch val → brings (.bend l ch val)) ∧
        (∀ ch state, r.frame = .hold ch state → brings (.hold l.castSucc l.castSucc ch state))) ∧
      (follows → ∀ bar beat bpb tempo, r.frame = .beat bar beat bpb tempo →
        brings (.beat l r.arrival bar beat bpb tempo)) ∧
      (∀ code tag args, r.frame = .mgmtReq code tag args →
        ∃ c q, brings c ∧ Instr.asked c = some q ∧ q.link = l ∧ q.frame = r.frame) ∧
      (Frame.kind r.frame ∈ [7, 8, 9, 11, 14, 15] ∨ (Frame.kind r.frame ≤ 6 ∧ ¬ routed) ∨
          (Frame.kind r.frame = 10 ∧ ¬ follows) → brings (.frameNotRouted l r.frame))) ∧
  (∀ s : State, (s.events = [] → s.waitingAt 12 = none) ∧
    (∀ p ch num val rest, s.events = .control p ch num val :: rest → s.waitingAt 12 = some (.control 12 ch num val)) ∧
    ∀ f (src : Fin 13) ch state rest, s.events = .hold f src ch state :: rest →
      s.waitingAt 12 = some (.hold 12 src ch state)) ∧
  (∀ (s : State) (same : PedalEvent → Bool), s.grantPedal same = { s with
    pointer := 12
    events := match s.events with
      | e :: rest => if same e then rest else e :: rest
      | [] => [] }) ∧
  (∀ (l : Fin 12) (f : Frame) (s : State), s.grant l f =
    { s with pointer := l }.setLink l { s.link l with fifo := afterGrant (s.link l).fifo f }) ∧
  (∀ (c : Instr) (l : Fin 12) (f : Frame) (s : State), Instr.delivers c = some (l, f) → Frame.accepted f = false →
    exec c s = .fault .notAccepted) ∧
  (∀ (pos src : Fin 13) (ch state : Nat) (s : State), pos.val < 12 → src ≠ pos →
    exec (.hold pos src ch state) s = .fault .notAccepted) ∧
  ∀ (c : Instr) (l : Fin 12) (f : Frame) (s : State), Instr.delivers c = some (l, f) → Frame.accepted f = true →
    Frame.kind f ≠ 12 → Frame.kind f ≠ 13 →
    let a := match c with
      | .beat _ arrival .. => s.runTo (arrival + 20)
      | _ => s
    (a.part = .loading ∨ (a.link l).role ≠ .source ∨ (Frame.kind f = 10 ∧ a.store.followLink ≠ l.val) ∨
      Frame.kind f ∈ [7, 8, 9, 11, 14, 15]) →
    exec c s = .next ({ a with pointer := l }.setLink l { a.link l with
      fifo := afterGrant (a.link l).fifo f,
      ctr := { (a.link l).ctr with notRouted := bump (a.link l).ctr.notRouted 1 } })

/-- R22: with a newest engaged REPLACE overlay that has a zone of the source, the candidates are its zones of the
source and those of the ADD overlays engaged after it; otherwise the scene's own and those of every engaged ADD
overlay; 32 zones at most. -/
def Obligations.CandidatesFollowTheOverlays : Prop :=
  ∀ (live : Live) (src : Nat),
    let mine (zs : List Zone) : List Zone := zs.filter (·.source == src)
    let takesOver (i : Nat) : Prop := ∃ o, live.overlays[i]? = some o ∧ o.replace = true ∧ mine o.zones ≠ []
    let adds (e : List Nat) : List Zone := e.flatMap fun i =>
      match live.overlays[i]? with
      | some o => if o.replace then [] else mine o.zones
      | none => []
    (∀ older i newer o, live.overlays[i]? = some o → o.replace = true → mine o.zones ≠ [] →
      (∀ j ∈ newer, ¬ takesOver j) → live.candidates (older ++ i :: newer) src = mine o.zones ++ adds newer) ∧
    (∀ e : List Nat, (∀ j ∈ e, ¬ takesOver j) → live.candidates e src = mine live.zones ++ adds e) ∧
    (∀ e : List Nat, e.Nodup → live.zones.length ≤ 16 → live.overlays.length ≤ 4 →
      (∀ o ∈ live.overlays, o.zones.length ≤ 4) → (live.candidates e src).length ≤ 32)

/-- R23 to R28: the copy list of a NOTE_ON is, in candidate order, one copy for each of the first eight candidate
zones that match it, keep the key in 0 to 127 and have an available destination. R40: each matching zone that finds
8 copies in the list counts as a fan-out drop; each one before that whose key falls outside 0 to 127 counts as
transpose range, and each other one whose destination is not available as destination unavailable. -/
def Obligations.NoteCopiesComeFromMatchingZones : Prop :=
  ∀ (s : State) (src ch key vel : Nat),
    let hit := (s.switch.live.candidates s.engaged src).filter fun z =>
      z.srcCh.all (· == ch) && decide (z.keyLow ≤ key ∧ key ≤ z.keyHigh) && decide (z.velLow ≤ vel ∧ vel ≤ z.velHigh)
    let inRange (z : Zone) : Bool := decide (0 ≤ (key : Int) + z.transpose ∧ (key : Int) + z.transpose ≤ 127)
    let open' (z : Zone) : Bool := (s.link z.destLink).up && (s.link z.destLink).role == .module
    let good (z : Zone) : Bool := inRange z && open' z
    let full (i : Nat) : Bool := decide (8 ≤ (hit.take i).countP good)
    let counts (p : Zone → Bool) : Nat := (List.range hit.length).countP fun i => !full i && (hit[i]?).any p
    (s.planNote src ch key vel).1 = ((hit.filter good).take 8).map (fun z =>
      { link := z.destLink, ch := z.destCh.getD ch, key := ((key : Int) + z.transpose).toNat, vel := z.outVel vel,
        holdFollow := z.holdFollow, passPressure := z.passPressure }) ∧
    (s.Counted → (s.planNote src ch key vel).2 = { s.router with
      fanOut := bump s.router.fanOut ((List.range hit.length).countP full)
      transposeRange := bump s.router.transposeRange (counts fun z => !inRange z)
      unavailable := bump s.router.unavailable (counts fun z => inRange z && !open' z) })

/-- R28, R51, R52: a routed NOTE_ON for a key without an entry, with room in the table, makes a KEYED entry at the
end of the table, and takes the copy list in order. A copy whose destination count stands at 7 is suppressed and
counted (R52, R62); one whose link is not an UP MODULE link, or has no room in the queue that its window chooses, is
refused and counted by the link and by the tracker (R71, R73); any other joins the entry as PENDING, raises its
destination's count, and its NOTE_ON waits in that queue. So the copies come from the list in order, all of it when
no queue is near full, no count near its limit and no destination named twice. The router counts its walk, and a
note without copies when the list was empty (R28, R40). Nothing else outside the note tracker and the links changes,
and of a link only its queues and counters and the source's FIFO. -/
def Obligations.NoteOnMakesAKeyedEntry : Prop :=
  ∀ (l : Fin 12) (ch key vel : Nat) (s : State), s.Routed l (.noteOn ch key vel) → s.entry l ch key = none →
    s.tracker.table.length < 128 →
    let plans := (s.planNote l ch key vel).1
    exec (.noteOn l ch key vel) s = .next (plans.foldl (State.takeCopy l ch key) { s.grant l (.noteOn ch key vel) with
      router := s.noteCounters l ch key vel
      tracker := { s.tracker with table := s.tracker.table ++ [⟨l, ch, key, .keyed, []⟩] } }) ∧
    (∀ (u : State) (m : Fin 12) (p : Plan), p.link = m →
      let k := u.link m
      let n := u.destCount m p.ch p.key
      let closed : Bool := k.window.state == .closed
      let room : Prop := if closed then k.queue.length < 64 else k.deferral.length < 32
      let w : Waiting := ⟨.noteOn p.ch p.key p.vel, u.now, some u.tracker.nextCopy, false⟩
      let c : Copy := ⟨u.tracker.nextCopy, m, p.ch, p.key, p.vel, p.holdFollow, p.passPressure, .pending⟩
      let run := State.takeCopy l ch key u p
      (7 ≤ n → run = { u with tracker := { u.tracker with
        ctr := { u.tracker.ctr with suppressed := bump u.tracker.ctr.suppressed 1 } } }) ∧
      (n < 7 → k.up = false ∨ k.role ≠ .module ∨ ¬ room →
        run = { u with tracker := { u.tracker with
          ctr := { u.tracker.ctr with refusedCopies := bump u.tracker.ctr.refusedCopies 1 } } }.setLink m { k with
            out := { k.out with refusedNotes := bump k.out.refusedNotes 1 } }) ∧
      (n < 7 → k.up = true → k.role = .module → room →
        run = { u with tracker := { u.tracker with
          table := u.tracker.table.map fun e =>
            if Entry.isFor l ch key e then { e with copies := e.copies ++ [c] } else e
          nextCopy := u.tracker.nextCopy + 1
          counts := u.tracker.counts.write (destAddr m p.ch p.key) (n + 1) } }.setLink m
            (if closed then { k with queue := k.queue ++ [w] } else { k with deferral := k.deferral ++ [w] }))) ∧
    ∃ t copies, exec (.noteOn l ch key vel) s = .next t ∧
      t.tracker.table = s.tracker.table ++ [{ src := l, ch := ch, key := key, state := .keyed, copies := copies }] ∧
      (copies.map Copy.plan).Sublist plans ∧ (∀ c ∈ copies, c.state = .pending) ∧
      ((∀ m : Fin 12, (s.link m).queue.length ≤ 56 ∧ (s.link m).deferral.length ≤ 24) →
        (∀ p ∈ plans, s.destCount p.link p.ch p.key < 7) →
        plans.Pairwise (fun p q => destAddr p.link p.ch p.key ≠ destAddr q.link q.ch q.key) →
        copies.map Copy.plan = plans) ∧
      { t with pointer := s.pointer, links := s.links, router := s.router, tracker := s.tracker } = s ∧
      t.router = s.noteCounters l ch key vel ∧ t.tracker.holds = s.tracker.holds ∧ t.tracker.tableFull = s.tracker.tableFull ∧
      (∀ a, t.tracker.counts.read a =
        s.tracker.counts.read a + copies.countP fun c => destAddr c.link c.ch c.key == a) ∧
      ∀ m : Fin 12, let k := s.link m
        let notes := (copies.filter (·.link == m.val)).map fun c => ⟨.noteOn c.ch c.key c.vel, s.now, some c.id, false⟩
        (t.link m).queue = k.queue ++ (if k.window.state = .closed then notes else []) ∧
        (t.link m).deferral = k.deferral ++ (if k.window.state = .closed then [] else notes) ∧
        { t.link m with fifo := k.fifo, queue := k.queue, deferral := k.deferral, out := k.out } = k

/-- R46, R48, R49: a NOTE_ON for a key that has an entry first releases that entry whole, with release velocity 64,
and takes it out, counted as a re-strike; one that finds 128 entries does so with the oldest SUSTAINED entry,
counted as a steal. It then goes on as a NOTE_ON in the state this leaves, and the report is made after it. -/
def Obligations.NoteOnReplacesOrSteals : Prop :=
  ∀ (l : Fin 12) (ch key vel : Nat) (s : State), s.Routed l (.noteOn ch key vel) → s.NotesLaw →
    let freed (e : Entry) (c : TrackerCounters) : State :=
      let u := e.copies.foldl (State.releaseCopy 64) s
      { u with tracker := { u.tracker with
          table := s.tracker.table.filter fun x => !Entry.isFor e.src e.ch e.key x
          ctr := c } }
    (∀ e, s.entry l ch key = some e → ∃ t,
      exec (.noteOn l ch key vel)
        (freed e { s.tracker.ctr with reStrikes := bump s.tracker.ctr.reStrikes 1 }) = .next t ∧
      exec (.noteOn l ch key vel) s = .next t.releaseReport) ∧
    (∀ v older newer, s.entry l ch key = none → s.tracker.table.length = 128 →
      s.tracker.table = older ++ v :: newer → v.state = .sustained → (∀ e ∈ older, e.state = .keyed) → ∃ t,
      exec (.noteOn l ch key vel)
        (freed v { s.tracker.ctr with steals := bump s.tracker.ctr.steals 1 }) = .next t ∧
      exec (.noteOn l ch key vel) s = .next t.releaseReport)

/-- R50: a NOTE_ON that finds 128 KEYED entries, none of its key, is refused: no entry, copy or count changes, the
refusal is counted, and TABLE_FULL is raised and its timer started when the timer is stopped. -/
def Obligations.NoteOnIsRefusedByAFullTable : Prop :=
  ∀ (l : Fin 12) (ch key vel : Nat) (s : State), s.Routed l (.noteOn ch key vel) → s.entry l ch key = none →
    s.tracker.table.length = 128 → (∀ e ∈ s.tracker.table, e.state = .keyed) →
    ∃ t, exec (.noteOn l ch key vel) s = .next t ∧
      t.tracker = { s.tracker with
        ctr := { s.tracker.ctr with refusedNotes := bump s.tracker.ctr.refusedNotes 1 },
        tableFull := some (s.tracker.tableFull.getD (s.now + 1000000)) } ∧
      { t with pointer := s.pointer, links := s.links, router := s.router, tracker := s.tracker, mgmt := s.mgmt } = s ∧
      t.router = s.noteCounters l ch key vel ∧ ∀ p : Fin 12, (t.link p).deferral = (s.link p).deferral ∧
        (t.link p).queue = (s.link p).queue ++
          if s.store.reportLink = p ∧ s.tracker.tableFull = none ∧ (s.link p).up = true ∧ (s.link p).queue.length < 64
          then [noticeFrame (.tableFull l ch key) s.now] else []

/-- R53: a NOTE_OFF with no matching entry is counted; one that matches while its hold flag is clear releases every
copy with its own release velocity and removes the entry, and the tracker reports. -/
def Obligations.NoteOffEndsItsEntry : Prop :=
  ∀ (l : Fin 12) (ch key vel : Nat) (s : State), s.Routed l (.noteOff ch key vel) →
    let g := s.grant l (.noteOff ch key vel)
    (s.entry l ch key = none → exec (.noteOff l ch key vel) s = .next { g with tracker := { s.tracker with
      ctr := { s.tracker.ctr with unmatchedReleases := bump s.tracker.ctr.unmatchedReleases 1 } } }) ∧
    (∀ e, s.entry l ch key = some e → s.held l ch = false →
      let u := e.copies.foldl (State.releaseCopy vel) g
      exec (.noteOff l ch key vel) s = .next (State.releaseReport { u with tracker := { u.tracker with
        table := s.tracker.table.filter fun x => !Entry.isFor l ch key x } }))

/-- R46, R54: under hold, the copies without hold-follow are released and the others stay; the entry is SUSTAINED in
its place, or removed when none stays. A NOTE_OFF for an entry that is SUSTAINED already changes no entry, so there
is no report. -/
def Obligations.NoteOffUnderHoldSustains : Prop :=
  ∀ (l : Fin 12) (ch key vel : Nat) (s : State) (e : Entry), s.Routed l (.noteOff ch key vel) →
    s.entry l ch key = some e → s.held l ch = true →
    let stay := e.copies.filter (·.holdFollow)
    let u := (e.copies.filter fun c => !c.holdFollow).foldl (State.releaseCopy vel) (s.grant l (.noteOff ch key vel))
    let keep (x : Entry) : Entry :=
      if Entry.isFor l ch key x then { x with state := .sustained, copies := stay } else x
    let kept := { u with tracker := { u.tracker with table := s.tracker.table.map keep } }
    (stay ≠ [] → exec (.noteOff l ch key vel) s =
      .next (if e.state = .sustained then kept else kept.releaseReport)) ∧
    (stay = [] → exec (.noteOff l ch key vel) s = .next (State.releaseReport { u with
      tracker := { u.tracker with table := s.tracker.table.filter fun x => !Entry.isFor l ch key x } }))

/-- R33, R55, R56, R7, R171: HOLD on sets the flag of its source and channel and nothing else; HOLD off clears it,
then releases every SUSTAINED entry of them whole, in creation order, with release velocity 64, and reports if there
was one. Both act alike from a link and from a footswitch, whose event leaves the event list when it is the head
(one that is not leaves the list as it is: log entry 5; DeliveredFramesLeaveTheirFifo). -/
def Obligations.HoldSetsAndLiftsSustain : Prop :=
  ∀ (pos src : Fin 13) (ch : Nat) (s : State), ch < 32 → s.part = .ready → s.NotesLaw →
    (pos.val < 12 → src = pos ∧ (s.link pos).role = .source) →
    let granted (state : Nat) : State :=
      if pos.val < 12 then s.grant pos (.hold ch state) else s.grantPedal (PedalEvent.isHold src ch state)
    let hit (e : Entry) : Bool := e.state == .sustained && e.src == src.val && e.ch == ch
    (exec (.hold pos src ch 1) s = .next { granted 1 with
      tracker := { s.tracker with holds := s.tracker.holds.write (holdAddr src ch) 1 } }) ∧
    (let u := ((s.tracker.table.filter hit).flatMap (·.copies)).foldl (State.releaseCopy 64) { granted 0 with
       tracker := { s.tracker with holds := s.tracker.holds.write (holdAddr src ch) 0 } }
     let v := { u with tracker := { u.tracker with table := s.tracker.table.filter fun e => !hit e } }
     exec (.hold pos src ch 0) s = .next (if s.tracker.table.any hit then v.releaseReport else v)) ∧
    (∀ (x : PedalEvent) (state : Nat), PedalEvent.isHold src ch state x = true ↔
      ∃ f, x = .hold f src ch state)

/-- R57: key-addressed pressure with no matching entry is counted; otherwise one PRESSURE frame goes to each
distinct destination among the entry's pass-pressure copies, in the order in which the copy list first names them. -/
def Obligations.KeyPressureFollowsTheCopies : Prop :=
  ∀ (l : Fin 12) (ch key val : Nat) (s : State), key < 128 → s.Routed l (.pressure ch key val) →
    let g := s.grant l (.pressure ch key val)
    (s.entry l ch key = none → exec (.pressure l ch key val) s = .next { g with tracker := { s.tracker with
      ctr := { s.tracker.ctr with unmatchedPressure := bump s.tracker.ctr.unmatchedPressure 1 } } }) ∧
    (∀ e, s.entry l ch key = some e →
      let dests := ((e.copies.filter (·.passPressure)).map fun c => (c.link, c.ch, c.key)).eraseDups
      exec (.pressure l ch key val) s =
        .next (dests.foldl (fun s d => s.placeControl d.1 (.pressure d.2.1 d.2.2 val)) g))

/-- R30 to R32: a CONTROL, BEND or whole-channel PRESSURE gives one frame, on its channel, to each distinct
available destination of the candidate zones that pass its kind, in candidate order, to the first eight. R40: a
selected zone whose destination is not yet in the list counts as a fan-out drop when the list holds 8, and as
destination unavailable before that when its destination is not available. Pedal events act alike, from source 12,
and leave the event list when they are its head (R7, R171; one that is not leaves the list as it is: log entry 5). -/
def Obligations.ControllersReachEachDestinationOnce : Prop :=
  ∀ (src ch : Nat) (f : Frame) (s : State),
    (Frame.kind f = 4 ∨ Frame.kind f = 5 ∨ Frame.kind f = 3) → s.Counted →
    let hit := (s.switch.live.candidates s.engaged src).filter fun z => z.srcCh.all (· == ch) && z.passes f
    let open' (z : Zone) : Bool := (s.link z.destLink).up && (s.link z.destLink).role == .module
    let dest (z : Zone) : Nat × Nat := (z.destLink, z.destCh.getD ch)
    let named (i : Nat) : List (Nat × Nat) := (((hit.take i).filter open').map dest).eraseDups
    let dests := (named hit.length).take 8
    let counts (p : Nat → Zone → Bool) : Nat := (List.range hit.length).countP fun i => (hit[i]?).any (p i)
    let c := { s.router with
      fanOut := bump s.router.fanOut (counts fun i z => decide (8 ≤ (named i).length) && !dests.contains (dest z))
      unavailable := bump s.router.unavailable (counts fun i z => decide ((named i).length < 8) && !open' z) }
    (∀ (l : Fin 12), src = l → s.Routed l f →
        let run (s : State) : State :=
          dests.foldl (fun s d => s.placeControl d.1 (Frame.withCh d.2 f)) { s with router := c }
        (∀ num val, f = .control ch num val →
          exec (.control l.castSucc ch num val) s = .next (run (s.grant l f))) ∧
        (∀ val, f = .bend ch val → exec (.bend l ch val) s = .next (run (s.grant l f))) ∧
        (∀ val, f = .pressure ch 255 val → exec (.pressure l ch 255 val) s = .next (run (s.grant l f)))) ∧
    (src = 12 → s.part = .ready → Frame.accepted f = true → ∀ num val, f = .control ch num val →
        (∀ x : PedalEvent, PedalEvent.isControl ch num val x = true ↔ ∃ p, x = .control p ch num val) ∧
        exec (.control 12 ch num val) s = .next (dests.foldl (fun s d => s.placeControl d.1 (Frame.withCh d.2 f))
          { s.grantPedal (PedalEvent.isControl ch num val) with router := c }))

/-- R72: a frame coalesces into a waiting frame of its kind, channel and number or key, which keeps its place and
entry instant; recall frames take none, nor does a PRESSURE behind which its key's NOTE_ON waits; it joins the queue
only when no frame may take it. R71 to R73: a controller frame for a link that is not an UP MODULE link is dropped
and counted; otherwise, in the queue that the window's state chooses, it is absorbed into a waiting match, or joins
the tail, or is dropped and counted when the queue is full. -/
def Obligations.ControllerFramesCoalesceOrArePlaced : Prop :=
  (∀ (f : Frame) (q : List Waiting),
    let takes (w : Waiting) (behind : List Waiting) : Prop :=
      w.fromRecall = false ∧ Frame.sameStream w.frame f = true ∧ ∀ x ∈ behind, Frame.strikes f x.frame = false
    (∀ q', coalesce f q = some q' → ∃ before w behind, q = before ++ w :: behind ∧ takes w behind ∧
      q' = before ++ { w with frame := f } :: behind) ∧
    (coalesce f q = none → ∀ before w behind, q = before ++ w :: behind → ¬ takes w behind)) ∧
  ∀ (l : Fin 12) (f : Frame) (s : State), let k := s.link l
    let closed : Bool := k.window.state == .closed
    let q := if closed then k.queue else k.deferral
    let room := if closed then 64 else 32
    let put (q : List Waiting) (o : OutCounters) : Link :=
      if closed then { k with queue := q, out := o } else { k with deferral := q, out := o }
    let dropped := s.setLink l { k with out := { k.out with droppedCtl := bump k.out.droppedCtl 1 } }
    (k.up = false ∨ k.role ≠ .module → s.placeControl l f = dropped) ∧
    (k.up = true → k.role = .module →
      (∀ q', coalesce f q = some q' → s.placeControl l f =
        s.setLink l (put q' { k.out with coalesced := bump k.out.coalesced 1 })) ∧
      (coalesce f q = none → q.length < room → s.placeControl l f =
        s.setLink l (put (q ++ [⟨f, s.now, none, false⟩]) k.out)) ∧
      (coalesce f q = none → room ≤ q.length → s.placeControl l f = dropped))


/-! ### The follow unit -/

/-- R144 to R146, R150, R151: a BEAT frame is judged in the state `a` at its taking, 20 µs after its arrival at the
earliest, the advances due before that taken (PulsesFollowTheAccumulator; log entry 2). In OFF it is discarded; in
HOLDOVER it leads back to SEEK; in SEEK it gives the first arrival, or an interval, and one in range enters LOCKING
with T at its estimate and, while the transport moves, a phase snap; a snap that begins a beat is the boundary that
BEAT_BOUNDARY makes of an advance owed (log entry 1), a new bar's too, and one at pulse 119 or below posts no frame
(log entry 40). R158: in every state but OFF, a START held pending is carried out after all of the frame's work. -/
def Obligations.BeatFramesSeekALock : Prop :=
  ∀ (l : Fin 12) (arr : Nat) (bar : Int) (beat bpb tempo : Nat) (s : State),
    let a := s.runTo (arr + 20)
    a.Routed l (.beat bar beat bpb tempo) → a.store.followLink = l →
    let g := a.grant l (.beat bar beat bpb tempo)
    let x := a.follow
    let ctr := { x.ctr with beats := bump x.ctr.beats 1 }
    let run := exec (.beat l arr bar beat bpb tempo) s
    (x.state = .off → run = .next g) ∧
    (s.beat.startPending = true → s.beat.transport = .stopped → x.state ≠ .off → ∃ v t : State,
      exec (.beat l arr bar beat bpb tempo) { s with beat := { s.beat with startPending := false } } = .next v ∧
      run = .next t ∧ v.Started t) ∧
    (a.beat.startPending = false →
      (x.state = .holdover → run = .next { g with
        follow := { x with state := .seek, lastArrival := some arr, good := 0, outlierRun := 0, ctr := ctr } }) ∧
      (x.state = .seek → x.lastArrival = none →
        run = .next { g with follow := { x with lastArrival := some arr, ctr := ctr } }) ∧
      (∀ last i, x.state = .seek → x.lastArrival = some last → i = arr - last → i < 200000 ∨ 2000000 < i →
        run = .next { g with
          follow := { x with lastArrival := some arr, lastInterval := some i, ctr := ctr } }) ∧
      (∀ last i, x.state = .seek → x.lastArrival = some last → i = arr - last → 200000 ≤ i → i ≤ 2000000 →
        let est := roundDiv 6000000000 i
        let y := { x with
          state := .locking, lastArrival := some arr, lastInterval := some i, lastEstimate := some est,
          good := 0, outlierRun := 0, correction := none, ctr := ctr }
        let b := { a.beat with
          tempo := est, applied := inc est, ramp := none,
          ctr := if a.beat.ramp = none then a.beat.ctr
            else { a.beat.ctr with rampsEnded := bump a.beat.ctr.rampsEnded 1 } }
        (¬ a.beat.snapsForward ∨ a.beat.index + 1 < a.beat.current → ∃ t, run = .next t ∧
          t.follow = { y with limit := some (12000000000 / est) } ∧ t.beat = Beat.snapped b ∧
          (a.beat.snapsForward → ∀ m : Fin 12, t.link m = (g.link m).offered (a.boundaryFrames m t.beat)) ∧
          (¬ a.beat.snapsForward → t.links = g.links) ∧
          { t with follow := x, beat := a.beat, links := a.links } = { g with links := a.links }) ∧
        (a.beat.snapsForward → ∃ v, exec .beatBoundary { g with beat := b.beforeBoundary, follow := y } = .next v ∧
          run = .next { v with follow := { y with limit := some (12000000000 / v.beat.tempo) } })))

/-- R145, R147 to R149, R151, R152: in LOCKING a frame in tolerance moves T by a quarter of the difference, snaps,
and the fourth in a row locks; a snap that begins a beat is the boundary that BEAT_BOUNDARY makes of an advance owed
(log entry 1), a new bar's too, and one at pulse 119 or below posts no frame (log entry 40). In LOCKED a frame in
tolerance moves T by an eighth and, while the transport moves, sets the phase correction, half the error, at most
12. Three outliers in a row lead to SEEK. (Judged in the state `a` at the taking, as in BeatFramesSeekALock, which
also says what a START held pending does; no ramp is active, R146 having ended it. Log entry 2.) -/
def Obligations.BeatFramesMoveTheTempo : Prop :=
  ∀ (l : Fin 12) (arr last i : Nat) (bar : Int) (beat bpb tempo : Nat) (s : State),
    let a := s.runTo (arr + 20)
    a.Routed l (.beat bar beat bpb tempo) → a.store.followLink = l → a.beat.startPending = false →
    a.beat.ramp = none → a.follow.lastArrival = some last → i = arr - last →
    let g := a.grant l (.beat bar beat bpb tempo)
    let T := a.beat.tempo
    let est := roundDiv 6000000000 i
    let ctr := { a.follow.ctr with beats := bump a.follow.ctr.beats 1 }
    let x : Follow := { a.follow with
      lastArrival := some arr, lastInterval := some i,
      lastEstimate := if 200000 ≤ i ∧ i ≤ 2000000 then some est else a.follow.lastEstimate, ctr := ctr }
    let inTol := 200000 ≤ i ∧ i ≤ 2000000 ∧ est ≤ T + T / 8 ∧ T ≤ est + T / 8
    let toward (n : Nat) : Nat := if T ≤ est then T + (est - T) / n else T - (T - est) / n
    let run := exec (.beat l arr bar beat bpb tempo) s
    (a.follow.state = .locking → inTol →
      let b := { a.beat with tempo := toward 4, applied := inc (toward 4) }
      let y : Follow := { x with good := x.good + 1, outlierRun := 0, correction := none }
      let locked (f : Follow) : Follow := { f with state := .locked, ctr := { f.ctr with locks := bump f.ctr.locks 1 } }
      (¬ a.beat.snapsForward ∨ a.beat.index + 1 < a.beat.current →
        ∃ t, run = .next t ∧ t.beat = Beat.snapped b ∧
          t.follow = (if x.good < 3 then { y with limit := some (12000000000 / toward 4) }
            else locked { y with limit := some (12000000000 / toward 4) }) ∧
          (∀ m : Fin 12, (t.link m).realTime = if a.beat.snapsForward
            then ((a.link m).offered (a.boundaryFrames m t.beat)).realTime else (a.link m).realTime) ∧
          (∀ p : Fin 12, a.store.reportLink = p → (a.link p).up = true → (a.link p).queue.length < 64 →
            (t.link p).queue = (a.link p).queue ++
              if x.good < 3 then [] else [noticeFrame (.lockChange .locked (toward 4)) a.now]) ∧
          { t with pointer := a.pointer, follow := a.follow, beat := a.beat, links := a.links, mgmt := a.mgmt } = a) ∧
      (a.beat.snapsForward → ∃ v,
        exec .beatBoundary { g with beat := b.beforeBoundary, follow := { x with correction := none } } = .next v ∧
        let f := { y with limit := some (12000000000 / v.beat.tempo) }
        (x.good < 3 → run = .next { v with follow := f }) ∧
        (3 ≤ x.good → run = .next ({ v with follow := locked f }.raise (.lockChange .locked v.beat.tempo))))) ∧
    (a.follow.state = .locked → inTol → a.beat.pulse < 240 →
      let half := if a.beat.pulse < 120 then a.beat.pulse / 2 else (240 - a.beat.pulse) / 2
      let size : Int := if half ≤ 12 then half else 12
      let c : Int := if a.beat.pulse < 120 then -size else size
      run = .next { g with
        beat := { a.beat with
          tempo := toward 8,
          applied := if a.beat.transport = .stopped then inc (toward 8)
            else roundDiv (inc (toward 8) * (240 + c).toNat) 240 },
        follow := { x with
          outlierRun := 0, limit := some (12000000000 / toward 8),
          correction := if a.beat.transport = .stopped then none else some c } }) ∧
    (a.follow.state = .locking ∨ a.follow.state = .locked → ¬ inTol →
      let b : Beat := if a.follow.state = .locked then { a.beat with applied := inc T } else a.beat
      let x : Follow := { x with
        correction := if a.follow.state = .locked then none else x.correction,
        ctr := { ctr with outliers := bump ctr.outliers 1 } }
      (x.outlierRun < 2 → run = .next { g with
        beat := b, follow := { x with outlierRun := x.outlierRun + 1, limit := some (12000000000 / T) } }) ∧
      (2 ≤ x.outlierRun → run = .next { g with
        beat := b,
        follow := { x with
          state := .seek, good := 0, outlierRun := 0, limit := none,
          ctr := { x.ctr with lockLosses := bump x.ctr.lockLosses 1 } } }))

/-- R149, R150, R153, R158: two beats without a BEAT frame lead from LOCKING to SEEK, and from LOCKED to HOLDOVER,
in which T stays, the increment is INC(T), and LOCK_CHANGE is raised. A START held pending is carried out then. (`a`
is the state at that instant: log entry 2.) -/
def Obligations.BeatSilenceEndsTheLock : Prop :=
  ∀ (s : State) (last d : Nat), s.follow.lastArrival = some last → s.follow.limit = some d →
    let a := s.runTo (last + d)
    let x := a.follow
    (x.state = .locking → exec .followSilenceTimerExpiry s = .next { a with
      follow := { x with
        state := .seek, good := 0, outlierRun := 0, limit := none,
        ctr := { x.ctr with lockLosses := bump x.ctr.lockLosses 1 } } }) ∧
    (x.state = .locked →
      let h := { a with
        beat := { a.beat with applied := inc a.beat.tempo },
        follow := { x with
          state := .holdover, limit := none, correction := none,
          ctr := { x.ctr with holdovers := bump x.ctr.holdovers 1 } } }.raise (.lockChange .holdover a.beat.tempo)
      (a.beat.startPending = false → exec .followSilenceTimerExpiry s = .next h) ∧
      (a.beat.startPending = true → a.beat.transport = .stopped → ∃ t, exec .followSilenceTimerExpiry s = .next t ∧
        h.Started t))

/-! ### Pulses, boundaries, START and STOP -/

/-- R130, R161: the next advance from a pulse below 239 comes after the fewest additions that reach 2^28; it raises
the pulse by one and posts CLOCK by the divisor of each link and the subdivision CLICK to CLICK links. The model's
choices: an advance that the sum has reached already is owed and comes at once (log entry 1), and the command itself
carries the time forward to the advance (log entry 2). R144, R159: what happens at an instant (a command that moves
the time to it, TAP, START, STOP, SET_TEMPO, STATUS, a switch request) finds taken every advance that fell due
before that instant, each as the PULSE or BEAT_BOUNDARY that it is; one that stands at the very instant stays owed
(log entry 2). -/
def Obligations.PulsesFollowTheAccumulator : Prop :=
  (∀ (s : State) (t : Nat), (s.runTo t).now = max s.now t) ∧
  (∀ (s : State) (t : Nat), s.TempoLaw → s.beat.fraction < 268435456 →
    let b := s.beat
    let fellDue := b.transport ≠ .stopped ∧ ((0 < b.owed ∧ (s.now < t ∨ 1 < b.owed ∨ b.applied ≤ b.fraction)) ∨
      ∃ n, b.owed = 0 ∧ b.advancesIn n ∧ s.now + n < t)
    (fellDue → ∀ v, exec (if b.pulse < 239 then .pulse else .beatBoundary) s = .next v → s.runTo t = v.runTo t) ∧
    (¬ fellDue → s.runTo t = s.advanceTo t)) ∧
  ∀ (s : State) (n : Nat), s.beat.transport ≠ .stopped → s.beat.pulse < 239 → s.beat.advancesIn n →
    let q := s.beat.pulse + 1
    let c := s.beat.inForce
    ∃ t, exec .pulse s = .next t ∧ t.now = s.now + n ∧ t.beat.pulse = q ∧ s.beat.Advanced t.beat n ∧
      { t.beat with pulse := s.beat.pulse, fraction := s.beat.fraction, owed := s.beat.owed } = s.beat ∧
      (∀ l : Fin 12, t.link l = (s.link l).offered
        ((if s.store.divisor l ≠ 0 ∧ q % s.store.divisor l = 0 then [.clock q] else []) ++
          (if (s.link l).role = .click ∧ s.beat.transport = .running ∧ 1 < c.subdivision ∧ 0 < c.level ∧
              q % (240 / c.subdivision) = 0
            then [.click c.level s.beat.index (q / (240 / c.subdivision))] else []))) ∧
      { t with now := s.now, beat := s.beat, links := s.links } = s

/-- R130 to R132, R134, R161 to R165: a beat boundary: pulse 0, the next beat or the next bar, the ramp's next step,
the settings pending taken up, COUNT_IN left at bar 1, the frames of R162, and the cue of the next bar posted. R117:
at a bar boundary the switch controller comes first, in whatever state it is (the request that it holds armed then
commits, counts or waits, as RequestsWaitForTheirGates says of its gate), and hands the boundary back: a commit that
has stopped the transport ends the boundary there, and else the beat engine sets up the bar from what the commit has
left it. The model's choices: an advance that the sum has reached already is owed and comes at once (log entry 1),
the command itself carries the time forward to the advance (log entry 2), and an index at or above the beats per
bar, which no run reaches, wraps as the last one does (log entry 26). -/
def Obligations.BoundariesMoveTheBeat : Prop :=
  ∀ (s : State) (n : Nat), s.beat.transport ≠ .stopped → s.beat.pulse = 239 → s.beat.advancesIn n →
    let b := s.beat.rampStepped
    let x := if s.beat.ramp = none then s.follow else { s.follow with correction := none }
    let bar : Int := if s.beat.segueMark = true ∨ s.beat.bar = -1 then 1
      else if s.beat.bar < 32767 then s.beat.bar + 1 else 32767
    (s.beat.index + 1 < s.beat.current → ∃ t, exec .beatBoundary s = .next t ∧ t.now = s.now + n ∧
      s.beat.Advanced t.beat n ∧
      { t.beat with fraction := s.beat.fraction, owed := s.beat.owed } =
        { b with pulse := 0, index := s.beat.index + 1, inForce := s.beat.handed } ∧
      (∀ l : Fin 12, t.link l = (s.link l).offered (s.boundaryFrames l t.beat)) ∧
      { t with now := s.now, beat := s.beat, follow := s.follow, links := s.links } = s ∧ t.follow = x) ∧
    (s.beat.current ≤ s.beat.index + 1 → ∃ u : State, u.now = s.now + n ∧ s.beat.Advanced u.beat n ∧
      { u.beat with fraction := s.beat.fraction, owed := s.beat.owed } =
        { b with pulse := 0, index := 0, bar := bar, segueMark := false } ∧ u.follow = x ∧
      { u with now := s.now, beat := s.beat, follow := s.follow } = s ∧
      let v := u.barGate
      let run := exec .beatBoundary s
      (v.beat.transport = .stopped → run = .next v) ∧
      (v.beat.transport ≠ .stopped → ∃ w : State,
        w.beat = { v.beat with
          current := v.beat.pending, inForce := v.beat.handed,
          transport := if v.beat.transport = .countIn ∧ v.beat.bar = 1 then .running else v.beat.transport } ∧
        (∀ l : Fin 12, w.link l = (v.link l).offered (v.boundaryFrames l w.beat)) ∧
        { w with beat := v.beat, links := v.links } = v ∧
        (w.beat.transport ≠ .running ∨ (∀ c ∈ w.songCues, (c.1 : Int) ≠ w.beat.bar + 1) → run = .next w) ∧
        (∀ c, w.beat.transport = .running → w.songCues.find? (fun c => (c.1 : Int) == w.beat.bar + 1) = some c →
          run = .next (w.takeCue w.switch.position.song c.2)))) ∧
    (s.beat.current ≤ s.beat.index + 1 → s.switch.state ≠ .armed →
      let moved : Transport := if s.beat.transport = .countIn ∧ bar = 1 then .running else s.beat.transport
      ∃ t, exec .beatBoundary s = .next t ∧ t.now = s.now + n ∧ s.beat.Advanced t.beat n ∧
        { t.beat with fraction := s.beat.fraction, owed := s.beat.owed } = { b with
          pulse := 0, index := 0, bar := bar, segueMark := false, transport := moved,
          current := s.beat.pending, inForce := s.beat.handed } ∧
        (∀ l : Fin 12, t.link l = (s.link l).offered (s.boundaryFrames l t.beat)) ∧ t.follow = x ∧
        { t with now := s.now, beat := s.beat, follow := s.follow, links := s.links, switch := s.switch } = s ∧
        (moved ≠ .running ∨ (∀ c ∈ s.songCues, (c.1 : Int) ≠ bar + 1) → t.switch = s.switch) ∧
        (∀ c, moved = .running → s.songCues.find? (fun c => (c.1 : Int) == bar + 1) = some c →
          s.switch.state = .idle → { t.switch with ctr := s.switch.ctr } = { s.switch with
            state := .armed
            armed := some ⟨⟨s.switch.position.song, c.2⟩, .atBar, 0, 0, .cue⟩ }))

/-- R157 to R160, R164: START while the part stands, with the cue of bar 2 when it begins bar 1; STOP while the part
moves, which leaves a phase correction as it is (log entry 39) and drops an advance that is owed (log entry 1); and
what each leaves alone. The commands, which take the advances that fell due before them first
(PulsesFollowTheAccumulator; log entry 2), answer with the transport state and the START-pending flag, and a
START_STOP footswitch hands over one or the other. -/
def Obligations.StartAndStopMoveTheTransport : Prop :=
  ∀ s : State,
    (s.beat.transport ≠ .stopped ∨ s.beat.startPending = true → s.start = s ∧ s.startStop = s.stop) ∧
    (s.beat.transport = .stopped → s.beat.startPending = false → s.startStop = s.start ∧
      (s.follow.state = .locked → s.start = { s with beat := { s.beat with startPending := true } }) ∧
      (s.follow.state ≠ .locked → s.Started s.start)) ∧
    (s.beat.transport = .stopped → s.stop = { s with beat := { s.beat with startPending := false } }) ∧
    (s.beat.transport ≠ .stopped →
      let still := { s.beat with transport := .stopped, owed := 0, bar := 1, index := 0, segueMark := false }
      let u := match s.beat.ramp with
        | none => { s with beat := still }
        | some r => { s with
          beat := { still with
            tempo := r.target, applied := inc r.target, ramp := none,
            ctr := { s.beat.ctr with rampsEnded := bump s.beat.ctr.rampsEnded 1 } },
          follow := { s.follow with correction := none } }
      (s.switch.state ≠ .armed ∨ (∀ r, s.switch.armed = some r → r.gate ≠ .atBar) → s.stop = u) ∧
      (∀ r, s.switch.state = .armed → s.switch.armed = some r → r.gate = .atBar →
        s.stop = u.commit r.target r.cause false)) ∧
    (∀ (l : Fin 12) (tag : Byte), s.Serves l .command →
      let answer (u : State) : Answer :=
        ⟨.ok, [byte (Transport.code u.beat.transport), if u.beat.startPending then 1 else 0]⟩
      (let u := ((s.grant l (.mgmtReq 8 tag [10])).runTo s.now).start
       exec (.start l tag []) s = .next (u.reply l 8 tag (answer u))) ∧
      (let u := ((s.grant l (.mgmtReq 8 tag [11])).runTo s.now).stop
       exec (.stop l tag []) s = .next (u.reply l 8 tag (answer u))))

/-- R136 to R139: a tap begins a series, joins it, or begins it anew; two or more intervals write T and, while the
transport moves, the tap becomes the beat; at pulse 120 or above it makes the boundary that BEAT_BOUNDARY makes of
an advance owed (log entry 1), a new bar's too, and at pulse 119 or below it posts no frame (log entry 40).
SET_TEMPO writes its argument, limited. Neither does so unless the follow unit is OFF. The two commands find taken
every advance that fell due before them (PulsesFollowTheAccumulator; log entry 2), so that a tap is judged by the
pulse held at its instant. (TAP is timed at the instant of its taking, log entry 28.) -/
def Obligations.TapsAndSetTempoWriteTheTempo : Prop :=
  ∀ s : State,
    (s.follow.state ≠ .off → s.tap =
      { s with beat := { s.beat with ctr := { s.beat.ctr with tapsRefused := bump s.beat.ctr.tapsRefused 1 } } }) ∧
    (s.follow.state = .off → s.beat.lastTap = none →
      s.tap = { s with beat := { s.beat with lastTap := some s.now, taps := [] } }) ∧
    (∀ t0, s.follow.state = .off → s.beat.lastTap = some t0 → s.now - t0 < 200000 ∨ 2000000 < s.now - t0 →
      s.tap = { s with beat := { s.beat with
        lastTap := some s.now, taps := [],
        ctr := { s.beat.ctr with tapRestarts := bump s.beat.ctr.tapRestarts 1 } } }) ∧
    (∀ t0, s.follow.state = .off → s.beat.lastTap = some t0 → 200000 ≤ s.now - t0 → s.now - t0 ≤ 2000000 →
      let taps := (if s.beat.taps.length < 4 then s.beat.taps else s.beat.taps.drop 1) ++ [s.now - t0]
      let T := limit 3000 30000 (roundDiv (6000000000 * taps.length) (taps.foldl (· + ·) 0))
      (taps.length < 2 → s.tap = { s with beat := { s.beat with lastTap := some s.now, taps := taps } }) ∧
      (2 ≤ taps.length → ¬ s.beat.snapsForward ∨ s.beat.index + 1 < s.beat.current →
        s.tap.beat = Beat.snapped { s.beat with
          lastTap := some s.now, taps := taps, tempo := T, applied := inc T, ramp := none,
          ctr := if s.beat.ramp = none then s.beat.ctr
            else { s.beat.ctr with rampsEnded := bump s.beat.ctr.rampsEnded 1 } } ∧
        (∀ l : Fin 12, s.tap.link l =
          (s.link l).offered (if 120 ≤ s.beat.pulse ∧ s.beat.transport ≠ .stopped
            then s.boundaryFrames l s.tap.beat else [])) ∧
        { s.tap with beat := s.beat, links := s.links, follow := s.follow } = s) ∧
      (2 ≤ taps.length → s.beat.snapsForward → exec .beatBoundary { s with
        beat := Beat.beforeBoundary { s.beat with
          lastTap := some s.now, taps := taps, tempo := T, applied := inc T, ramp := none,
          ctr := if s.beat.ramp = none then s.beat.ctr
            else { s.beat.ctr with rampsEnded := bump s.beat.ctr.rampsEnded 1 } },
        follow := { s.follow with correction := none } } = .next s.tap)) ∧
    (∀ (l : Fin 12) (tag : Byte), s.Serves l .command →
      let a := (s.grant l (.mgmtReq 8 tag [12])).runTo s.now
      let u := a.tap
      exec (.tap l tag []) s = .next (u.reply l 8 tag
        (if a.follow.state = .off then ⟨.ok, be16 u.beat.tempo ++ [byte u.beat.taps.length]⟩
          else ⟨.following, be16 u.beat.tempo⟩))) ∧
    (∀ (l : Fin 12) (tag hi lo : Byte), s.Serves l .command →
      let a := (s.grant l (.mgmtReq 8 tag [13, hi, lo])).runTo s.now
      let T := limit 3000 30000 (256 * hi.toNat + lo.toNat)
      (a.follow.state = .off → exec (.setTempo l tag [hi, lo]) s = .next ({ a with
        beat := { a.beat with
          tempo := T, applied := inc T, ramp := none,
          ctr := if a.beat.ramp = none then a.beat.ctr
            else { a.beat.ctr with rampsEnded := bump a.beat.ctr.rampsEnded 1 } },
        follow := { a.follow with correction := none } }.reply l 8 tag ⟨.ok, be16 T⟩)) ∧
      (a.follow.state ≠ .off → exec (.setTempo l tag [hi, lo]) s = .next ({ a with
        beat := { a.beat with ctr := { a.beat.ctr with tempoRefused := bump a.beat.ctr.tempoRefused 1 } }
        }.reply l 8 tag ⟨.following, be16 a.beat.tempo⟩)))

/-! ### Pedals and footswitches -/

/-- R167 to R171: samples join the history of an enabled pedal, at most 8 held, and count toward the next
evaluation, of which the eighth makes it: the average is scaled, rounded, limited and perhaps inverted; a value that
differs enough, or is a new end, makes a CONTROL event, which takes the place of a waiting one of the same pedal;
eight averages of 1016 or more make the pedal ABSENT, eight below PRESENT. (The samples come with the command, of
which the pedal takes no more than it lacks, or by the idle step: log entry 18. `a` is the state at the instant: log
entry 2.) -/
def Obligations.PedalEvaluationsMakeEvents : Prop :=
  ∀ (p : Fin 4) (instant : Nat) (samples : List Nat) (s : State),
    let a := s.runTo instant
    a.Within → a.part = .ready →
    let r := a.store.get .pedal p
    let x0 := a.pedal p
    let taken := samples.drop (samples.length - (8 - x0.phase))
    let h := (x0.history ++ taken).drop ((x0.history ++ taken).length - 8)
    let x := { x0 with next := (if x0.next ≤ instant then instant else x0.next) + 1000 }
    let put (y : Pedal) : State := { a with pedals := bankSet a.pedals p y }
    let run := exec (.pedalEvaluation p instant samples) s
    (Record.flag r 0 0 = false → run = .next a) ∧
    (Record.flag r 0 0 = true → x.phase + samples.length < 8 →
      run = .next (put { x with history := h, phase := x.phase + samples.length })) ∧
    (Record.flag r 0 0 = true → 8 ≤ x.phase + samples.length → h.length < 8 →
      run = .next (put { x with history := h, phase := 0 })) ∧
    (Record.flag r 0 0 = true → 8 ≤ x.phase + samples.length → h.length = 8 →
      let avg := h.foldl (· + ·) 0 / 8
      (1016 ≤ avg →
        let y := { x with
          history := h, phase := 0, highRun := if x.highRun < 8 then x.highRun + 1 else 8, lowRun := 0 }
        (x.absent = true ∨ x.highRun < 7 → run = .next (put y)) ∧
        (x.absent = false → 7 ≤ x.highRun →
          run = .next ((put { y with absent := true }).raise (.pedalAbsent p true)))) ∧
      (avg < 1016 → ∀ lo hi, u16At r 3 = lo → u16At r 5 = hi → lo < hi →
        let y := { x with
          history := h, phase := 0, lowRun := if x.lowRun < 8 then x.lowRun + 1 else 8, highRun := 0 }
        let v0 := if avg ≤ lo then 0 else if hi ≤ avg then 1023 else roundDiv ((avg - lo) * 1023) (hi - lo)
        let v := if Record.flag r 0 1 then 1023 - v0 else v0
        let e : PedalEvent := .control p (u8At r 1) (u8At r 2) v
        let joined := if a.events.any (PedalEvent.sameOrigin · e)
          then a.events.map fun w => if PedalEvent.sameOrigin w e then e else w else a.events ++ [e]
        let told := x.last = none ∨ ∃ w, x.last = some w ∧
          (w + u8At r 7 ≤ v ∨ v + u8At r 7 ≤ w ∨ ((v = 0 ∨ v = 1023) ∧ v ≠ w))
        v ≤ 1023 ∧
        (x.absent = false → told → run = .next { put { y with last := some v } with events := joined }) ∧
        (x.absent = false → ¬ told → run = .next (put y)) ∧
        (x.absent = true → x.lowRun < 7 → run = .next (put y)) ∧
        (x.absent = true → 7 ≤ x.lowRun → run = .next { (put { y with absent := false, last := some v }).raise
          (.pedalAbsent p false) with events := joined })))

/-- R172 to R174: the first sample sets the accepted state, without a press or release; samples of another meaning
raise the run, and the one that brings it to the debounce is the press or release, which hands on what the function
gives: a switch request, a tap, a START or STOP, an overlay engaged, released or toggled, a HOLD event, the PANIC
hold timer. Before the first sample there is no press or release (log entry 17), nor is there a press of a PRESSED
footswitch or a release of a RELEASED one (log entry 4). (How the three rows share this is log entry 17. An event is
judged in the state `a` at its instant, the advances due before that taken: log entry 2.) -/
def Obligations.FootswitchesHandOnTheirFunction : Prop :=
  ∀ (f : Fin 4) (instant : Nat) (s : State),
    let a := s.runTo instant
    a.Within → a.part = .ready →
    let r := a.store.get .footswitch f
    let fn := Record.footFunction r
    let x := a.foot f
    let put (y : Foot) : State := { a with foots := bankSet a.foots f y }
    let down := { x with pressed := true, run := 0, level := some (Record.highPressed r) }
    let lifted := { x with pressed := false, run := 0, level := some (!Record.highPressed r) }
    let joined (state : Nat) : List PedalEvent :=
      let e : PedalEvent := .hold f (u8At r 3) (u8At r 4) state
      if a.events.any (PedalEvent.sameOrigin · e)
      then a.events.map fun w => if PedalEvent.sameOrigin w e then e else w else a.events ++ [e]
    let press := exec (.footswitchPress f instant) s
    let lift := exec (.footswitchRelease f instant) s
    (x.level = none → press = .next a ∧ lift = .next a) ∧
    (x.pressed = true → press = .next a) ∧
    (x.pressed = false → lift = .next a) ∧
    (x.level ≠ none → x.pressed = false →
      (fn = .none → press = .next (put down)) ∧
      (∀ ask, (fn = .nextScene ∧ ask = .nextScene) ∨ (fn = .prevScene ∧ ask = .prevScene) ∨
          (fn = .nextSong ∧ ask = .nextSong) ∨ (fn = .prevSong ∧ ask = .prevSong) →
        (∀ t, a.resolve ask = .ok t → press = .next ((put down).takeRequest
          { target := t, gate := Gate.ofCode (u8At r 3), fallback := u8At r 4, count := 0, cause := .footswitch })) ∧
        (∀ e, a.resolve ask = .error e → press = .next { put down with switch := { a.switch with
          ctr := { a.switch.ctr with refused := bump a.switch.ctr.refused 1 } } })) ∧
      (fn = .tap → press = .next (put down).tap) ∧
      (fn = .startStop → press = .next (put down).startStop) ∧
      (fn = .overlay → press = .next { put down with
        engaged :=
          if u8At r 3 < a.switch.live.overlays.length ∧ u8At r 3 ∉ a.engaged then a.engaged ++ [u8At r 3]
        else a.engaged }) ∧
      (fn = .overlayLatch → press = .next { put down with
        engaged :=
          if u8At r 3 ∈ a.engaged then a.engaged.filter (· != u8At r 3)
        else if u8At r 3 < a.switch.live.overlays.length then a.engaged ++ [u8At r 3] else a.engaged }) ∧
      (fn = .hold → press = .next { put down with events := joined 1 }) ∧
      (fn = .panic → press = .next (put { down with timer := some (a.now + 2000000) }))) ∧
    (x.level ≠ none → x.pressed = true →
      (fn = .overlay → lift = .next { put lifted with engaged := a.engaged.filter (· != u8At r 3) }) ∧
      (fn = .hold → lift = .next { put lifted with events := joined 0 }) ∧
      (fn = .panic → lift = .next (put { lifted with timer := none })) ∧
      (fn ≠ .overlay → fn ≠ .hold → fn ≠ .panic → lift = .next (put lifted))) ∧
    (∀ high : Bool, let meaning := high == Record.highPressed r
      let sample := exec (.footswitchSample f instant high) s
      let y := { x with level := some high }
      (x.level = none → sample = .next (put { y with pressed := meaning, run := 0 })) ∧
      (x.level ≠ none → x.pressed = meaning → sample = .next (put { y with run := 0 })) ∧
      (x.level ≠ none → x.pressed ≠ meaning →
        (x.run + 1 < u8At r 2 → sample = .next (put { y with run := x.run + 1 })) ∧
        (u8At r 2 ≤ x.run + 1 → sample = if meaning then press else lift)))

/-! ### Requests -/

/-- R7, R9, R177, R178: before its own work a request is ignored under rights NONE, refused as DENIED with the fault
recorded under rights too low (the FAULT notice after the reply, when the record was empty), answered BAD_REQUEST
for an unknown code or a wrong length, and BUSY while LOADING. The fault names the table and index that the request
names, for an edit-slot request those of the slot's record, or 255 and 255 when the slot is not open. (The table and
index that a request without its arguments names are free, log entry 12. An unknown command code needs COMMAND
rights, as an unknown request code does: log entry 8.) -/
def Obligations.RequestsAreJudgedFirst : Prop :=
  ∀ (c : Instr) (a : Asked) (s : State), Instr.asked c = some a →
    let l := a.link
    let g := s.grant l a.frame
    let height := Rights.code (s.link l).rights
    ((s.link l).rights = .none → exec c s = .next (g.setLink l { g.link l with
      ctr := { (s.link l).ctr with ignored := bump (s.link l).ctr.ignored 1 } })) ∧
    ((s.link l).rights ≠ .none → height < Rights.code a.need → ∃ (t : State) (f : FaultRecord), exec c s = .next t ∧
      t.mgmt.ctr.answered = bump s.mgmt.ctr.answered 1 ∧ t.mgmt.ctr.denied = bump s.mgmt.ctr.denied 1 ∧
      f.link = l.val ∧ f.code = a.code ∧
      (a.code = 8 → f.table = 255 ∧ ∀ cmd, a.args[0]? = some cmd → f.index = cmd) ∧
      (a.code = 1 ∨ a.code = 3 → f.table = 255 ∧ ∀ i, a.args[0]? = some i → f.index = i) ∧
      (a.code = 2 ∨ a.code = 4 → (∀ b, a.args[0]? = some b → f.table = b) ∧ ∀ i, a.args[1]? = some i → f.index = i) ∧
      (a.code = 5 ∨ a.code = 6 ∨ a.code = 7 → ∀ n, a.args[0]? = some n →
        (∀ x, s.slot n.toNat = some x → f.table = byte (Table.code x.table) ∧ f.index = byte x.index) ∧
        (s.slot n.toNat = none → f.table = 255 ∧ f.index = 255)) ∧
      (s.mgmt.fault = none → t.mgmt.fault = some f ∧ t.mgmt.later = 0) ∧
      (∀ old, s.mgmt.fault = some old → t.mgmt.fault = some old ∧
        t.mgmt.later = if s.mgmt.later < 255 then s.mgmt.later + 1 else 255) ∧
      (∀ p : Fin 12, s.store.reportLink = p → s.part = .ready →
        (∀ m : Fin 12, m = l ∨ m = p → (s.link m).up = true ∧ (s.link m).queue.length < 63) → ∀ m : Fin 12,
        (t.link m).queue = (s.link m).queue ++
          (if m = l then [replyFrame a.code a.tag .denied [] s.now] else []) ++
          (if m = p ∧ s.mgmt.fault = none then [noticeFrame (.fault f) s.now] else [])) ∧
      { t with pointer := s.pointer, links := s.links, mgmt := s.mgmt, drawn := s.drawn } = s) ∧
    (Rights.code a.need ≤ height → (s.link l).rights ≠ .none →
      (a.form = false → exec c s = .next (g.reply l a.code a.tag ⟨.badRequest, []⟩)) ∧
      (a.form = true → s.part = .loading → a.loading = false →
        exec c s = .next (g.reply l a.code a.tag ⟨.busy, []⟩)))

/-- R177, R179 to R181: what IDENTIFY, READ and STATUS answer, reading the state as the grant leaves it, STATUS with
the advances that fell due before it taken (PulsesFollowTheAccumulator; log entry 2); and what each section of
STATUS holds, item by item in the order and the widths of R181: SWITCH (R125, R100, R34), TEMPO (R140, R155), FOLLOW
(R154), HELD (R63, R40), LINK (R18, R88), HISTOGRAM (R87), PEDALS (R176) and FAULT (R181). The model's choices in
these: the record fields that they repeat are those of the store, which while LOADING holds the defaults (log entry
10), places and widths that R181 leaves open (log entry 19), the live name while there is none (38), the width of a
footswitch's run (42), the byte order of four-byte items (43), items that two rules list (44), and a last interval
beyond four bytes (47). -/
def Obligations.ReadingRequestsAnswerFromTheState : Prop :=
  ∀ (l : Fin 12) (tag : Byte) (s : State), Rights.code .read ≤ Rights.code (s.link l).rights →
    (∀ leaf : Byte, exec (.identify l tag [leaf]) s = .next ((s.grant l (.mgmtReq 1 tag [leaf])).reply l 1 tag
      (if leaf = 0 then ⟨.ok, [2, 7, 4, 224]⟩ else if leaf = 1 then ⟨.ok, [1, 15]⟩
        else if leaf = 2 then ⟨.ok, [1, 12, 2, 64, 3, 48, 4, 4, 5, 4, 6, 128, 7, 64, 8, 32, 9, 4, 10, 4]⟩
        else ⟨.range, []⟩))) ∧
    (∀ table index hi lo n : Byte, s.part = .ready →
      let args := [table, index, hi, lo, n]
      let off := 256 * hi.toNat + lo.toNat
      let answer (a : Answer) : Prop :=
        exec (.read l tag args) s = .next ((s.grant l (.mgmtReq 2 tag args)).reply l 2 tag a)
      (∀ t : Table, Table.code t = table.toNat → index.toNat < Table.size t → 1 ≤ n.toNat → n.toNat ≤ 16 →
        off + n.toNat ≤ Table.length t →
        let r := s.store.get t index.toNat
        answer ⟨.ok, be16 (Record.gen t r) ++ (r.drop off).take n.toNat⟩) ∧
      (n.toNat = 0 ∨ 16 < n.toNat ∨ 5 < table.toNat ∨ (∃ t : Table, Table.code t = table.toNat ∧
          (Table.size t ≤ index.toNat ∨ Table.length t < off + n.toNat)) →
        answer ⟨.range, []⟩)) ∧
    (∀ sect index page : Byte,
      let g := (s.grant l (.mgmtReq 3 tag [sect, index, page])).runTo s.now
      (∀ b, g.sectionBytes sect.toNat index.toNat = some b → 20 * page.toNat < b.length → ∃ pages : Nat,
        20 * (pages - 1) < b.length ∧ b.length ≤ 20 * pages ∧
        exec (.status l tag [sect, index, page]) s =
          .next (g.reply l 3 tag ⟨.ok, byte pages :: (b.drop (20 * page.toNat)).take 20⟩)) ∧
      ((∀ b, g.sectionBytes sect.toNat index.toNat = some b → b.length ≤ 20 * page.toNat) →
        exec (.status l tag [sect, index, page]) s = .next (g.reply l 3 tag ⟨.range, []⟩)) ∧
      (7 < sect.toNat ∨ (sect.toNat = 4 ∨ sect.toNat = 5) ∧ 12 ≤ index.toNat ∨
          (sect.toNat ≠ 4 ∧ sect.toNat ≠ 5) ∧ index.toNat ≠ 0 →
        g.sectionBytes sect.toNat index.toNat = none)) ∧
    (let w := s.switch
     s.sectionBytes 0 0 = some (items (
      [(1, SwitchState.code w.state), (1, w.position.song), (1, w.position.scene)] ++
      (match w.armed with
        | some r => [(1, r.target.song), (1, r.target.scene), (1, Gate.code r.gate), (1, r.fallback), (2, r.count),
            (1, Cause.code r.cause)]
        | none => absent 7) ++
      (match w.queued with
        | some r => [(1, r.target.song), (1, r.target.scene), (1, Gate.code r.gate), (1, r.fallback),
            (1, Cause.code r.cause)]
        | none => absent 5) ++
      (match w.recalling with
        | some (t, c) => [(1, t.song), (1, t.scene), (1, Cause.code c)]
        | none => absent 3) ++
      [(2, ((List.range 12).map fun l => if l ∈ w.waitSet then 2 ^ l else 0).sum)] ++
      inTwo [w.ctr.taken, w.ctr.refused, w.ctr.superseded, w.ctr.cancelled, w.ctr.cuesSkipped, w.ctr.commits,
        w.ctr.fallbackCommits] ++
      (match w.live.ident with
        | some i => [(1, i.song), (1, i.scene), (1, i.record), (2, i.gen)] ++ w.live.name.map fun b => (1, b.toNat)
        | none => absent 5 ++ absent 16) ++
      [(1, bit w.differs), (1, s.engaged.length)] ++ s.engaged.map fun i => (1, i)))) ∧
    (let b := s.beat
     s.sectionBytes 1 0 = some (items (
      [(2, b.tempo), (4, inc b.tempo), (4, b.applied), (1, b.pulse), (1, b.index), (2, (b.bar % 65536).toNat),
        (1, b.current), (1, b.pending), (1, Transport.code b.transport), (1, bit b.startPending),
        (1, bit b.ramp.isSome)] ++
      (match b.ramp with
        | some r => inTwo [r.start, r.target, r.steps, r.step]
        | none => absent 8) ++
      [(2, b.taps.length), (1, bit b.lastTap.isSome)] ++
      inTwo [b.ctr.rampsBegun, b.ctr.rampsEnded, b.ctr.tapRestarts, b.ctr.tapsRefused, b.ctr.tempoRefused] ++
      [(1, b.countIn), (1, bit b.segueMark)] ++ b.inForce.shown ++ b.handed.shown))) ∧
    (let f := s.follow
     s.sectionBytes 2 0 = some (items (
      [(1, bit s.store.followEnable), (1, s.store.followLink), (1, FollowState.code f.state),
        (1, bit f.lastArrival.isSome)] ++
      (match f.lastInterval with | some n => [(4, n)] | none => absent 4) ++
      (match f.lastEstimate with | some n => [(2, n)] | none => absent 2) ++
      [(2, f.good), (1, f.outlierRun)] ++
      (match f.limit with | some n => [(4, n)] | none => absent 4) ++
      (match f.correction with | some c => [(1, (c % 256).toNat)] | none => absent 1) ++
      inTwo [f.ctr.beats, f.ctr.outliers, f.ctr.locks, f.ctr.lockLosses, f.ctr.holdovers]))) ∧
    (let k := s.tracker
     s.sectionBytes 3 0 = some (items (
      inTwo [k.table.length, k.table.countP (·.state == .keyed), k.copies.length, k.copies.countP (·.state == .pending)] ++
      ((List.range 52).map fun i => (1, eight fun j => k.holds.read (8 * i + j) != 0)) ++
      inTwo [k.ctr.reStrikes, k.ctr.steals, k.ctr.refusedNotes, k.ctr.suppressed, k.ctr.refusedCopies,
        k.ctr.unmatchedReleases, k.ctr.unmatchedPressure] ++
      [(1, bit k.tableFull.isSome)] ++
      inTwo [s.router.fanOut, s.router.transposeRange, s.router.unavailable, s.router.withoutCopies]))) ∧
    (∀ m : Fin 12, let k := s.link m
      s.sectionBytes 4 m = some (items (inTwo k.counters ++
        [(1, bit k.up), (1, Role.code k.role), (1, Rights.code k.rights)] ++
        (match k.farEnd with
          | some (r, p) => [(1, Role.code r), (1, PartState.code p)]
          | none => absent 2))) ∧
      s.sectionBytes 5 m = some (items ((k.bins.toList.map fun b => (4, b.count)) ++
        [(1, eight fun j => (bankGet k.bins j {}).saturated), (1, bit s.counting), (1, bit (s.store.histMask m)),
          (1, bit k.late.isSome)]))) ∧
    s.sectionBytes 6 0 = some (items (
      ((List.range 4).flatMap fun p => let x := s.pedal p
        [(1, bit (Record.flag (s.store.get .pedal p) 0 0)), (1, bit x.absent)] ++
        (if x.history.length = 8 then [(2, x.history.sum / 8)] else absent 2) ++
        (match x.last with | some v => [(2, v)] | none => absent 2) ++ [(1, x.highRun), (1, x.lowRun)]) ++
      ((List.range 4).flatMap fun f => let x := s.foot f
        [(1, u8At (s.store.get .footswitch f) 0), (1, bit x.pressed), (1, x.run), (1, bit x.timer.isSome)]) ++
      [(2, s.events.length)])) ∧
    (let m := s.mgmt
     s.sectionBytes 7 0 = some (items (
      (match m.fault with
        | some f => [(1, f.link), (1, f.code.toNat), (1, f.table.toNat), (1, f.index.toNat)]
        | none => absent 4) ++
      [(2, m.later), (1, bit m.save.isSome), (1, ImageResult.code m.lastLoad), (1, ImageResult.code m.lastSave)] ++
      ((List.range 4).flatMap fun n => (1, bit (s.slot n).isSome) :: (match s.slot n with
        | some x => [(1, x.owner), (1, Table.code x.table), (1, x.index), (4, x.expires - s.now)]
        | none => absent 7)) ++
      inTwo [m.ctr.answered, m.ctr.denied, m.ctr.noticesDropped])))

/-- R182: EDIT_OPEN takes the lowest FREE slot with an image of the record, its generation and a 2,000 ms timer;
EDIT_PUT writes bytes within the record and restarts the timer; EDIT_ABANDON frees the slot; and what refuses them.
EDIT_COMMIT, like the two before it, answers RANGE for a slot number above 3 and NOT_OWNER for a slot that is FREE
or another link's (what it does with the link's own slot: EditCommitsReplaceTheRecord). -/
def Obligations.EditSlotsHoldARecord : Prop :=
  ∀ (l : Fin 12) (tag : Byte) (s : State), s.Serves l .full →
    (∀ table index : Byte,
      let g := s.grant l (.mgmtReq 4 tag [table, index])
      let run := exec (.editOpen l tag [table, index]) s
      (∀ (t : Table) (n : Nat), Table.code t = table.toNat → index.toNat < Table.size t → n < 4 → s.slot n = none →
        (∀ m, m < n → s.slot m ≠ none) →
        let r := s.store.get t index.toNat
        run = .next ((g.setSlot n (some ⟨l, t, index.toNat, r, Record.gen t r, s.now + 2000000⟩)).reply l 4 tag
          ⟨.ok, byte n :: be16 (Record.gen t r)⟩)) ∧
      (∀ t : Table, Table.code t = table.toNat → index.toNat < Table.size t → (∀ m, m < 4 → s.slot m ≠ none) →
        run = .next (g.reply l 4 tag ⟨.noSlot, []⟩)) ∧
      (5 < table.toNat ∨ (∃ t : Table, Table.code t = table.toNat ∧ Table.size t ≤ index.toNat) →
        run = .next (g.reply l 4 tag ⟨.range, []⟩))) ∧
    (∀ (n hi lo : Byte) (new : List Byte), 1 ≤ new.length → new.length ≤ 16 →
      let args := n :: hi :: lo :: new
      let off := 256 * hi.toNat + lo.toNat
      let g := s.grant l (.mgmtReq 5 tag args)
      let run := exec (.editPut l tag args) s
      (∀ x, n.toNat < 4 → s.slot n.toNat = some x → x.owner = l → off + new.length ≤ Table.length x.table →
        run = .next ((g.setSlot n.toNat (some { x with
          image := x.image.take off ++ new ++ x.image.drop (off + new.length)
          expires := s.now + 2000000 })).reply l 5 tag ⟨.ok, []⟩)) ∧
      (∀ x, n.toNat < 4 → s.slot n.toNat = some x → x.owner = l → Table.length x.table < off + new.length →
        run = .next (g.reply l 5 tag ⟨.range, []⟩)) ∧
      (n.toNat < 4 → (∀ x, s.slot n.toNat = some x → x.owner ≠ l) →
        run = .next (g.reply l 5 tag ⟨.notOwner, []⟩)) ∧
      (4 ≤ n.toNat → run = .next (g.reply l 5 tag ⟨.range, []⟩))) ∧
    (∀ n : Byte,
      let g := s.grant l (.mgmtReq 7 tag [n])
      let run := exec (.editAbandon l tag [n]) s
      (∀ x, n.toNat < 4 → s.slot n.toNat = some x → x.owner = l →
        run = .next ((g.setSlot n.toNat none).reply l 7 tag ⟨.ok, []⟩)) ∧
      (n.toNat < 4 → (∀ x, s.slot n.toNat = some x → x.owner ≠ l) →
        run = .next (g.reply l 7 tag ⟨.notOwner, []⟩)) ∧
      (4 ≤ n.toNat → run = .next (g.reply l 7 tag ⟨.range, []⟩))) ∧
    (∀ n hi lo : Byte,
      let g := s.grant l (.mgmtReq 6 tag [n, hi, lo])
      let run := exec (.editCommit l tag [n, hi, lo]) s
      (n.toNat < 4 → (∀ x, s.slot n.toNat = some x → x.owner ≠ l) →
        run = .next (g.reply l 6 tag ⟨.notOwner, []⟩)) ∧
      (4 ≤ n.toNat → run = .next (g.reply l 6 tag ⟨.range, []⟩)))

/-- R183, R184, R99, R101, R102: EDIT_COMMIT of an owned slot is STALE, INVALID, BUSY during a save, or writes the
record whole with its generation one higher (what is INVALID: ValidationNamesTheFirstFault). A scene record then
changes nothing but the live-differs flag, a song entry nothing, a pedal record sets its pedal afresh. R175: a
footswitch record does the old function's release action when the footswitch is PRESSED, and takes the new polarity
(with no sample taken yet, its state stays: log entries 17 and 27); its event takes the place of the one that the
list holds of its origin, at most one by R171 (StepKeepsCapacities). A link record gives its role and rights; R78:
one that shortens a settle time that has passed ends the SETTLING (its report before the deferred frames move: the
model's reading, log entry 14, DEDUCED, unsafe); R14, R83, R58, R59: a new role does the old role's work on the
table and on the section of an UP link, and the new role's. R123, R143: the system record gives the follow unit its
state, OFF or SEEK afresh with every item none, 0 or stopped, its correction dropped and the increment INC(T), and
removes the requests that lie beyond another set length. R144, R158: one that moves the follow unit out of LOCKED
then carries out a START held pending (after the set length: log entry 45). (Instants of a pedal's next sample: log
entry 18. An OPEN slot's image is as long as its record: StepKeepsCapacities.) -/
def Obligations.EditCommitsReplaceTheRecord : Prop :=
  ∀ (l : Fin 12) (tag n hi lo : Byte) (s : State) (x : Slot), s.Serves l .full → n.toNat < 4 →
    s.slot n.toNat = some x → x.owner = l → x.image.length = Table.length x.table →
    let g := s.grant l (.mgmtReq 6 tag [n, hi, lo])
    let r := s.store.get x.table x.index
    let gen := Record.gen x.table r
    let next := (gen + 1) % 65536
    let st := s.store.set x.table x.index (Record.withGen x.table x.image next)
    let freed := g.setSlot n.toNat none
    let run := exec (.editCommit l tag [n, hi, lo]) s
    (gen ≠ x.gen ∨ gen ≠ 256 * hi.toNat + lo.toNat →
      run = .next (freed.reply l 6 tag ⟨.stale, be16 gen ++ r.take 16⟩)) ∧
    (gen = x.gen → gen = 256 * hi.toNat + lo.toNat →
      (∀ off, st.check x.table x.index = some off → run = .next (freed.reply l 6 tag ⟨.invalid, be16 off⟩)) ∧
      (st.check x.table x.index = none → s.mgmt.save ≠ none →
        run = .next ((g.setSlot n.toNat (some { x with expires := s.now + 2000000 })).reply l 6 tag ⟨.busy, []⟩)) ∧
      (st.check x.table x.index = none → s.mgmt.save = none → ∃ u : State,
        run = .next (u.reply l 6 tag ⟨.ok, be16 next⟩) ∧ u.store = st ∧ u.slot n.toNat = none ∧
        u.mgmt.fault = s.mgmt.fault ∧ u.mgmt.save = none ∧
        (x.table = .scene → u = { freed with store := st, switch := { s.switch with
          differs := s.switch.differs || s.switch.live.ident.any fun i => i.record == x.index } }) ∧
        (x.table = .song → u = { freed with store := st }) ∧
        (x.table = .pedal → u = { freed with
          store := st, pedals := bankSet s.pedals x.index { next := s.now + 1000 } }) ∧
        (x.table = .link → ∀ m : Fin 12, m.val = x.index →
          let k := g.link m
          let role := Role.ofCode (u8At x.image 0)
          let rights := Rights.ofCode (u8At x.image 1)
          let same := { freed with store := st }.setLink m { k with rights := rights }
          let since := k.window.since + 1000 * u16At x.image 2
          (u.link m).role = role ∧ (u.link m).rights = rights ∧ (u.link m).up = k.up ∧
          (role = k.role → k.window.state ≠ .settling ∨ s.now < since → u = same) ∧
          (role = k.role → k.window.state = .settling → since ≤ s.now → exec (.drainMove m) ((same.setLink m
            { same.link m with window := { k.window with state := .draining } }).windowReport m) = .next u) ∧
          (role ≠ k.role →
            (k.role = .source → (∀ e ∈ u.tracker.table, e.src ≠ m) ∧
              ∀ ch, ch < 32 → u.tracker.holds.read (holdAddr m ch) = 0) ∧
            (k.role = .module →
              (∀ c ∈ u.tracker.copies, c.link ≠ m) ∧ (∀ e ∈ u.tracker.table, e.state = .sustained → e.copies ≠ []) ∧
              ∀ ch key, ch < 32 → key < 128 → u.destCount m ch key = 0) ∧
            (k.role ≠ .source → k.role ≠ .module → u.tracker = s.tracker) ∧
            (k.up = true → k.role = .module → (u.link m).realTime = [] ∧ (u.link m).silenceFlag = false ∧
              (u.link m).release = [] ∧ (u.link m).deferral = [] ∧ (u.link m).window = {} ∧
              ∀ w ∈ (u.link m).queue, Frame.performance w.frame = false) ∧
            (k.up = true → k.role = .click → role ≠ .module → (u.link m).realTime = [] ∧ (u.link m).queue = [] ∧
              (u.link m).deferral = [] ∧ (u.link m).window = {}) ∧
            (k.up = true → k.role = .unused → role ≠ .module → k.window.state = .closed → (u.link m).queue = []) ∧
            (k.up = true → k.role = .source → role ≠ .module → k.window.state = .closed → s.switch.state ≠ .armed →
              (∀ w ∈ k.queue, w.copy = none) → (u.link m).queue = k.queue) ∧
            (k.up = true → role = .module → k.role = .click ∨ k.window.state = .closed → s.switch.state ≠ .armed →
              (u.link m).silenceFlag = true ∧
              (s.recallsFor m ≠ [] → (u.link m).window.state = .sending) ∧
              (s.recallsFor m = [] → (u.link m).window.state = .closed)))) ∧
        (x.table = .footswitch → ∀ f : Fin 4, f.val = x.index → s.Within →
          let y := s.foot f
          let fn := Record.footFunction r
          let e : PedalEvent := .hold f (u8At r 3) (u8At r 4) 0
          u = { freed with
            store := st
            engaged := if y.pressed = true ∧ fn = .overlay then s.engaged.filter (· != u8At r 3) else s.engaged
            events := if y.pressed = true ∧ fn = .hold then
                (if s.events.any (PedalEvent.sameOrigin · e)
                  then s.events.map fun w => if PedalEvent.sameOrigin w e then e else w else s.events ++ [e])
              else s.events
            foots := bankSet s.foots f { y with
              run := 0
              timer := if y.pressed = true ∧ fn = .panic then none else y.timer
              pressed := (y.level.map (· == Record.highPressed x.image)).getD y.pressed } }) ∧
        (x.table = .system →
          let leaves := s.follow.state = .locked ∧ (st.followEnable = false ∨ st.followLink ≠ s.store.followLink)
          let unreleased := s.beat.startPending = false ∨ s.beat.transport ≠ .stopped ∨ ¬ leaves
          (s.beat.startPending = true → s.beat.transport = .stopped → leaves → ∃ v : State,
            exec (.editCommit l tag [n, hi, lo]) { s with beat := { s.beat with startPending := false } } =
              .next (v.reply l 6 tag ⟨.ok, be16 next⟩) ∧ v.Started u) ∧
          (unreleased → u.beat.startPending = s.beat.startPending ∧ u.beat.transport = s.beat.transport) ∧
          (st.followEnable = false → s.follow.state = .off → u.follow = s.follow ∧ u.beat = s.beat) ∧
          (st.followEnable = false → s.follow.state ≠ .off → u.follow = { state := .off, ctr := s.follow.ctr } ∧
            (unreleased → u.beat = { s.beat with applied := inc s.beat.tempo })) ∧
          (st.followEnable = true → s.follow.state = .off ∨ st.followLink ≠ s.store.followLink →
            u.follow = { state := .seek, ctr := s.follow.ctr } ∧
            (unreleased → u.beat = { s.beat with applied := inc s.beat.tempo })) ∧
          (st.followEnable = true → s.follow.state ≠ .off → st.followLink = s.store.followLink →
            u.follow = s.follow ∧ u.beat = s.beat) ∧
          (st.setLength = 0 → st.setLength ≠ s.store.setLength → unreleased →
            let gone := (if s.switch.armed.isSome then 1 else 0) + if s.switch.queued.isSome then 1 else 0
            u.switch = { s.switch with
              state := .idle, armed := none, queued := none, recalling := none, waitSet := []
              ctr := { s.switch.ctr with cancelled := bump s.switch.ctr.cancelled gone } }) ∧
          (0 < st.setLength → st.setLength ≠ s.store.setLength → unreleased →
            let beyond (q : Option Request) : Bool := q.any fun q => decide (st.setLength ≤ q.target.song)
            let gone := (if beyond s.switch.armed then 1 else 0) + if beyond s.switch.queued then 1 else 0
            u.switch = { s.switch with
              state := if beyond s.switch.armed then .idle else s.switch.state
              armed := if beyond s.switch.armed then none else s.switch.armed
              queued := if beyond s.switch.queued then none else s.switch.queued
              ctr := { s.switch.ctr with cancelled := bump s.switch.ctr.cancelled gone } }) ∧
          (st.setLength = s.store.setLength → unreleased → u.switch = s.switch))))

/-! ### Switching -/

/-- R107, R108: how each request resolves against its base `b`, in a set of `L` songs. -/
def Obligations.RequestsResolveAgainstTheirBase : Prop :=
  ∀ (s : State) (b : Target),
    ((s.switch.state = .idle ∧ b = s.switch.position) ∨
      (s.switch.state = .armed ∧ ∃ r, s.switch.armed = some r ∧ b = r.target) ∨
      (s.switch.state = .recalling ∧ ∃ r, s.switch.queued = some r ∧ b = r.target) ∨
      (s.switch.state = .recalling ∧ s.switch.queued = none ∧ ∃ c, s.switch.recalling = some (b, c))) →
    let L := s.store.setLength
    let C := s.store.sceneCount
    let p := s.switch.position
    (L = 0 → ∀ a, s.resolve a = .error .noSet) ∧
    (0 < L →
      (L ≤ b.song →
        s.resolve .nextScene = .error .endOfSet ∧ s.resolve .prevScene = .ok ⟨L - 1, C (L - 1) - 1⟩ ∧
        s.resolve .nextSong = .error .endOfSet ∧ s.resolve .prevSong = .ok ⟨L - 1, 0⟩) ∧
      (b.song < L →
        (b.scene + 1 < C b.song → s.resolve .nextScene = .ok ⟨b.song, b.scene + 1⟩) ∧
        (C b.song ≤ b.scene + 1 → b.song + 1 < L → s.resolve .nextScene = .ok ⟨b.song + 1, 0⟩) ∧
        (C b.song ≤ b.scene + 1 → b.song + 1 = L → s.resolve .nextScene = .error .endOfSet) ∧
        (C b.song ≤ b.scene → s.resolve .prevScene = .ok ⟨b.song, C b.song - 1⟩) ∧
        (b.scene < C b.song → 0 < b.scene → s.resolve .prevScene = .ok ⟨b.song, b.scene - 1⟩) ∧
        (0 < C b.song → b.scene = 0 → 0 < b.song →
          s.resolve .prevScene = .ok ⟨b.song - 1, C (b.song - 1) - 1⟩) ∧
        (0 < C b.song → b.scene = 0 → b.song = 0 → s.resolve .prevScene = .error .endOfSet) ∧
        (b.song + 1 < L → s.resolve .nextSong = .ok ⟨b.song + 1, 0⟩) ∧
        (b.song + 1 = L → s.resolve .nextSong = .error .endOfSet) ∧
        (0 < b.song → s.resolve .prevSong = .ok ⟨b.song - 1, 0⟩) ∧
        (b.song = 0 → 0 < b.scene → s.resolve .prevSong = .ok ⟨0, 0⟩) ∧
        (b.song = 0 → b.scene = 0 → s.resolve .prevSong = .error .endOfSet)) ∧
      (∀ n k, s.resolve (.select n k) = if n < L ∧ k < C n then .ok ⟨n, k⟩ else .error .range) ∧
      (s.resolve .apply = if L ≤ p.song then .error .range
        else if C p.song ≤ p.scene then .ok ⟨p.song, C p.song - 1⟩ else .ok p))

/-- R109 to R112, R114 to R117: a request taken in RECALLING is queued; taken otherwise it is armed, and commits at
once when its gate is open. R116, R117: every bar boundary met in ARMED counts, the first after the taking too, so
that a fallback of 1 bar commits there (log entry 46). A bar boundary, the note tracker's report and the report that
the transport has stopped each commit, or leave alone, what is armed. A CUE is taken for the base's song only. -/
def Obligations.RequestsWaitForTheirGates : Prop :=
  ∀ (s : State) (r : Request),
    let w := s.switch
    let replaces := (w.state = .armed ∨ w.state = .recalling ∧ w.queued.isSome)
    let ctr := { w.ctr with
      taken := bump w.ctr.taken 1, superseded := bump w.ctr.superseded (if replaces then 1 else 0) }
    let armed := { s with switch := { w with state := .armed, armed := some { r with count := 0 }, ctr := ctr } }
    let opens := r.gate = .immediate ∨ (r.gate = .atBar ∧ s.beat.transport = .stopped) ∨
      (r.gate = .atRelease ∧ ∀ e ∈ s.tracker.table, e.state ≠ .keyed)
    (w.state = .recalling →
      s.takeRequest r = { s with switch := { w with queued := some { r with count := 0 }, ctr := ctr } }) ∧
    (w.state ≠ .recalling → opens → s.takeRequest r = armed.commit r.target r.cause false) ∧
    (w.state ≠ .recalling → ¬ opens → s.takeRequest r = armed) ∧
    (∀ song scene, s.takeCue song scene = if w.base.song = song then s.takeRequest ⟨⟨song, scene⟩, .atBar, 0, 0, .cue⟩
      else { s with switch := { w with ctr := { w.ctr with cuesSkipped := bump w.ctr.cuesSkipped 1 } } }) ∧
    (w.state ≠ .armed → s.barGate = s ∧ s.releaseReport = s ∧ s.stopReport = s) ∧
    (w.state = .armed → w.armed = some r →
      let count := if r.count < 8 then r.count + 1 else 8
      let counted := { s with switch := { w with armed := some { r with count := count } } }
      (r.gate = .atBar → s.barGate = s.commit r.target r.cause true ∧
        s.stopReport = s.commit r.target r.cause false ∧ s.releaseReport = s) ∧
      (r.gate = .atRelease → s.stopReport = s ∧
        (r.fallback = 0 ∨ count < r.fallback → s.barGate = counted) ∧
        (0 < r.fallback → r.fallback ≤ count → s.barGate = State.commit { counted with
          switch := { counted.switch with ctr := { w.ctr with fallbackCommits := bump w.ctr.fallbackCommits 1 } } }
          r.target .fallback true) ∧
        ((∃ e ∈ s.tracker.table, e.state = .keyed) → s.releaseReport = s) ∧
        ((∀ e ∈ s.tracker.table, e.state ≠ .keyed) → s.releaseReport = s.commit r.target r.cause false)))

/-- R118 to R121, R133, R156, R159: a commit copies the scene record, moves the position, empties the overlay list,
opens a window on every UP MODULE link with recall entries, stops the transport on entering another song without
SEGUE, hands over tempo and click settings, and ends IDLE with SWITCH_DONE or RECALLING with its wait set. R80: the
other windows go on, but one in SENDING drops what it has not fed and settles when nothing is on its way (with a
settle time of 0 through to its moves, without a report: log entry 15). R135: a stop completes an active ramp. R165:
a segue while RUNNING makes the bar 1, at once within a bar boundary's step 3 and by the segue mark between
boundaries. A stop leaves a phase correction and its increment as they are (log entry 39); only a write of T drops
the correction, the scene's or a ramp's target (R127). The notes stay. -/
def Obligations.CommitsTakeTheScene : Prop :=
  ∀ (s : State) (target : Target) (cause : Cause) (atBar : Bool),
    let c := s.store.sceneCount target.song
    let tg : Target := if target.scene < c then target else ⟨target.song, c - 1⟩
    let n := Record.sceneRef (s.store.get .song tg.song) tg.scene
    let r := s.store.get .scene n
    let t := s.commit target cause atBar
    let recalled (l : Fin 12) : Prop :=
      (s.link l).up = true ∧ (s.link l).role = .module ∧ ∃ e ∈ Record.recalls r, e.link = l
    let stops := tg.song ≠ s.switch.position.song ∧ Record.segue (s.store.get .song tg.song) = false
    let tempo := u16At r 16
    t.switch.live = { ident := some ⟨tg.song, tg.scene, n, Record.gen .scene r⟩, name := r.take 16,
                      beatsPerBar := u8At r 19, click := Record.click r, countIn := u8At r 22,
                      zones := Record.zones r, recalls := Record.recalls r, overlays := Record.overlays r } ∧
    t.switch.position = tg ∧ t.switch.differs = false ∧ t.switch.armed = none ∧ t.switch.queued = s.switch.queued ∧
    t.switch.ctr = { s.switch.ctr with commits := bump s.switch.ctr.commits 1 } ∧ t.engaged = [] ∧
    t.tracker = s.tracker ∧ t.store = s.store ∧ t.router = s.router ∧ t.now = s.now ∧ t.part = s.part ∧
    (∀ l : Fin 12, l.val ∈ t.switch.waitSet ↔ recalled l) ∧
    (∀ l : Fin 12, recalled l → (t.link l).window.state = .sending ∧ (t.link l).deferral = (s.link l).deferral) ∧
    (∀ l : Fin 12, ¬ recalled l →
      let k := s.link l
      (k.window.state ≠ .sending → (t.link l).window = k.window ∧ (t.link l).deferral = k.deferral) ∧
      (k.window.state = .sending → k.window.fed = true →
        (t.link l).window = { k.window with todo := [] } ∧ (t.link l).deferral = k.deferral) ∧
      (k.window.state = .sending → k.window.fed = false → s.store.settleTime l ≠ 0 →
        (t.link l).window = { state := .settling, todo := [], fed := false, since := s.now } ∧
        (t.link l).deferral = k.deferral) ∧
      (k.window.state = .sending → k.window.fed = false → s.store.settleTime l = 0 →
        (t.link l).deferral = k.deferral.drop (64 - k.queue.length) ∧
        (t.link l).window.state = if k.deferral.length ≤ 64 - k.queue.length then .closed else .draining)) ∧
    ((∃ l, recalled l) → t.switch.state = .recalling ∧ t.switch.recalling = some (tg, cause)) ∧
    ((∀ l, ¬ recalled l) → t.switch.state = .idle ∧ t.switch.recalling = none ∧
      ((∀ l : Fin 12, (s.link l).window.state = .closed) → ∀ p : Fin 12, s.store.reportLink = p → s.part = .ready →
        (s.link p).up = true → (s.link p).queue.length < 64 →
        (t.link p).queue = (s.link p).queue ++
          [noticeFrame (.switchDone ⟨tg.song, tg.scene, n, Record.gen .scene r⟩ cause) s.now])) ∧
    t.beat.pending = u8At r 19 ∧ t.beat.handed = Record.click r ∧ t.beat.countIn = u8At r 22 ∧
    t.beat.inForce = s.beat.inForce ∧ t.beat.pulse = s.beat.pulse ∧ t.beat.fraction = s.beat.fraction ∧
    (stops → t.beat.transport = .stopped) ∧ (¬ stops → t.beat.transport = s.beat.transport) ∧
    (tempo = 0 ∨ s.follow.state ≠ .off →
      (¬ stops ∨ s.beat.transport = .stopped ∨ s.beat.ramp = none →
        t.beat.tempo = s.beat.tempo ∧ t.beat.applied = s.beat.applied ∧ t.beat.ramp = s.beat.ramp) ∧
      (∀ q, stops → s.beat.transport ≠ .stopped → s.beat.ramp = some q →
        t.beat.tempo = q.target ∧ t.beat.applied = inc q.target ∧ t.beat.ramp = none)) ∧
    (stops → s.beat.transport ≠ .stopped → t.beat.bar = 1 ∧ t.beat.index = 0 ∧ t.beat.segueMark = false) ∧
    (¬ stops ∨ s.beat.transport = .stopped → t.beat.index = s.beat.index ∧
      (let segues := tg.song ≠ s.switch.position.song ∧ Record.segue (s.store.get .song tg.song) = true ∧
        s.beat.transport = .running
       t.beat.bar = (if segues ∧ atBar = true then 1 else s.beat.bar) ∧
       t.beat.segueMark = if segues ∧ atBar = false then true else s.beat.segueMark)) ∧
    (tempo ≠ 0 → s.follow.state = .off → stops ∨ s.beat.transport = .stopped ∨ u8At r 18 = 0 →
      t.beat.tempo = tempo ∧ t.beat.applied = inc tempo ∧ t.beat.ramp = none) ∧
    (let writes := (stops ∧ s.beat.transport ≠ .stopped ∧ s.beat.ramp ≠ none) ∨
      (tempo ≠ 0 ∧ s.follow.state = .off ∧ (stops ∨ s.beat.transport = .stopped ∨ u8At r 18 = 0))
     (writes → t.follow = { s.follow with correction := none }) ∧ (¬ writes → t.follow = s.follow)) ∧
    (tempo ≠ 0 → s.follow.state = .off → ¬ stops → s.beat.transport ≠ .stopped → u8At r 18 ≠ 0 →
      t.beat.tempo = s.beat.tempo ∧
      t.beat.ramp = some ⟨s.beat.tempo, tempo, u8At r 18 * u8At r 19, 0⟩)

/-! ### Commands -/

/-- R35, R36, R39, R87, R113, R124, R178, R185, R189: what the commands of a COMMAND request do and answer: the
switch requests, CANCEL_SWITCH, the overlays, the histogram and clear commands and SAVE_IMAGE. A switch request
finds taken every advance that fell due before it (PulsesFollowTheAccumulator; log entry 2), so that its commit's
stop loses only one met at the same instant (R159). -/
def Obligations.CommandsAreCarriedOutAndAnswered : Prop :=
  ∀ (l : Fin 12) (tag : Byte) (s : State),
    let g (args : List Byte) : State := s.grant l (.mgmtReq 8 tag args)
    let ok (u : State) (data : List Byte) : Host.Outcome State Fault Refusal := .next (u.reply l 8 tag ⟨.ok, data⟩)
    let no (u : State) (st : Status) : Host.Outcome State Fault Refusal := .next (u.reply l 8 tag ⟨st, []⟩)
    let w := s.switch
    let caught (args : List Byte) : State := (g args).runTo s.now
    let asks (c : Instr) (q : Ask) (args : List Byte) (gate fb : Byte) : Prop :=
      (gate.toNat ≤ 2 → fb.toNat ≤ 8 →
        let a := caught args
        (∀ tg, a.resolve q = .ok tg →
          let u := a.takeRequest ⟨tg, Gate.ofCode gate.toNat, fb.toNat, 0, .command⟩
          exec c s = ok u [byte tg.song, byte tg.scene, byte (SwitchState.code u.switch.state),
            if a.switch.state = .recalling then 2 else 1]) ∧
        (∀ e, a.resolve q = .error e → exec c s = no { a with switch := { a.switch with
          ctr := { a.switch.ctr with refused := bump a.switch.ctr.refused 1 } } } e)) ∧
      (2 < gate.toNat ∨ 8 < fb.toNat → exec c s = no (caught args) .range)
    (s.Serves l .command →
      (∀ gate fb : Byte,
        asks (.nextScene l tag [gate, fb]) .nextScene [2, gate, fb] gate fb ∧
        asks (.prevScene l tag [gate, fb]) .prevScene [3, gate, fb] gate fb ∧
        asks (.nextSong l tag [gate, fb]) .nextSong [4, gate, fb] gate fb ∧
        asks (.prevSong l tag [gate, fb]) .prevSong [5, gate, fb] gate fb ∧
        asks (.apply l tag [gate, fb]) .apply [6, gate, fb] gate fb) ∧
      (∀ song scene gate fb : Byte, let args := [1, song, scene, gate, fb]
        let c := Instr.select l tag [song, scene, gate, fb]
        (song.toNat ≤ 47 → scene.toNat ≤ 7 → asks c (.select song.toNat scene.toNat) args gate fb) ∧
        (47 < song.toNat ∨ 7 < scene.toNat → exec c s = no (caught args) .range)) ∧
      (w.state = .armed → exec (.cancelSwitch l tag []) s = ok { g [7] with switch := { w with
        state := .idle, armed := none, ctr := { w.ctr with cancelled := bump w.ctr.cancelled 1 } } } [1]) ∧
      (w.state = .recalling → w.queued ≠ none → exec (.cancelSwitch l tag []) s = ok { g [7] with
        switch := { w with queued := none, ctr := { w.ctr with cancelled := bump w.ctr.cancelled 1 } } } [2]) ∧
      (w.state = .idle ∨ w.state = .recalling ∧ w.queued = none →
        exec (.cancelSwitch l tag []) s = ok (g [7]) [0]) ∧
      (∀ i : Byte, s.engaged.Nodup →
        (i.toNat < 4 → i.toNat < w.live.overlays.length → exec (.engageOverlay l tag [i]) s = ok { g [8, i] with
          engaged := if i.toNat ∈ s.engaged then s.engaged else s.engaged ++ [i.toNat] } []) ∧
        (4 ≤ i.toNat ∨ w.live.overlays.length ≤ i.toNat →
          exec (.engageOverlay l tag [i]) s = no (g [8, i]) .range) ∧
        (i.toNat < 4 → exec (.releaseOverlay l tag [i]) s =
          ok { g [9, i] with engaged := s.engaged.filter (· != i.toNat) } []) ∧
        (4 ≤ i.toNat → exec (.releaseOverlay l tag [i]) s = no (g [9, i]) .range))) ∧
    (s.Serves l .full →
      (∀ v : Byte,
        (v.toNat ≤ 1 → exec (.histogramEnable l tag [v]) s = ok { g [15, v] with counting := v.toNat == 1 } []) ∧
        (1 < v.toNat → exec (.histogramEnable l tag [v]) s = no (g [15, v]) .range)) ∧
      (∃ u : State, exec (.histogramClear l tag []) s = ok u [] ∧
        (∀ m : Fin 12, u.link m = { (g [16]).link m with bins := Vector.replicate 8 {}, late := none }) ∧
        { u with links := s.links } = { s with pointer := l }) ∧
      (∃ u : State, exec (.clearStats l tag []) s = ok u [] ∧ (∀ n ∈ u.eventCounters, n = 0) ∧
        (∀ m : Fin 12, { u.link m with ctr := {}, out := {} } = { (g [17]).link m with ctr := {}, out := {} }) ∧
        { u with
          links := s.links, router := s.router, tracker := { u.tracker with ctr := s.tracker.ctr },
          switch := { u.switch with ctr := w.ctr }, beat := { u.beat with ctr := s.beat.ctr },
          follow := { u.follow with ctr := s.follow.ctr }, mgmt := { u.mgmt with ctr := s.mgmt.ctr } } =
          { s with pointer := l }) ∧
      (exec (.clearFault l tag []) s = ok { g [18] with mgmt := { s.mgmt with fault := none, later := 0 } } []) ∧
      (s.mgmt.save = none → exec (.saveImage l tag []) s = ok { g [19] with
        mgmt := { s.mgmt with save := some ⟨s.store.image, s.now + 1500000⟩ } } []) ∧
      (s.mgmt.save ≠ none → exec (.saveImage l tag []) s = no (g [19]) .busy))

/-- R60, R174, R185: panic, from PANIC or from a PANIC footswitch held for 2,000 ms, releases every copy of every
entry in creation order with release velocity 64 (ReleasingACopy says what that posts to the release sets), empties
the held-note table, clears every hold flag and sets SILENCE on every UP MODULE link; its report lets an AT_RELEASE
request commit, which leaves the release sets alone. (`a` is the state at the hold timer's instant: log entry 2.) -/
def Obligations.PanicEndsEveryNote : Prop :=
  let panicked (s u : State) : Prop :=
    let v := s.tracker.copies.foldl (State.releaseCopy 64) s
    u.tracker.table = [] ∧ u.tracker.holds = [] ∧ (s.NotesLaw → ∀ a, u.tracker.counts.read a = 0) ∧
    (∀ m : Fin 12, (u.link m).up = (s.link m).up ∧ (u.link m).role = (s.link m).role ∧
      (u.link m).release = (v.link m).release ∧ (u.link m).silenceFlag =
      ((s.link m).silenceFlag || ((s.link m).up && (s.link m).role == .module))) ∧
    (s.switch.state ≠ .armed ∨ (∀ r, s.switch.armed = some r → r.gate ≠ .atRelease) →
      { u with links := s.links, tracker := s.tracker } = s ∧
      ∀ m : Fin 12, u.link m = { v.link m with silenceFlag := (u.link m).silenceFlag }) ∧
    (∀ r, s.switch.state = .armed → s.switch.armed = some r → r.gate = .atRelease →
      u.switch.position = s.store.clampTarget r.target ∧ u.switch.armed = none)
  (∀ (l : Fin 12) (tag : Byte) (s : State), s.Serves l .command → ∃ u : State,
    panicked (s.grant l (.mgmtReq 8 tag [14])) u ∧ exec (.panic l tag []) s = .next (u.reply l 8 tag ⟨.ok, []⟩)) ∧
  (∀ (f : Fin 4) (d : Nat) (s : State), (s.foot f).timer = some d → let a := s.runTo d
    ∃ u : State, panicked { a with foots := bankSet a.foots f { a.foot f with timer := none } } u ∧
    exec (.panicHoldTimerExpiry f) s = .next u)

/-- R34, R61, R84, R104, R126, R141, R142, R154, R167, R174, R190: RESTART gives every runtime block its start-up
values and makes the start-up commit; its panic sets SILENCE and posts the releases (PanicEndsEveryNote); the output
queues keep what is not performance traffic (a waiting frame with a copy being a NOTE_ON, the premise CopiesLaw,
which StepKeepsWaitingNotesOwned keeps), and the windows and the beat engine hold what the start-up commit gives
them. The store, the links, the counters of the blocks, the histograms, the fault, the last results and a save in
progress stay. -/
def Obligations.RestartGivesTheStartUpValues : Prop :=
  ∀ (l : Fin 12) (tag : Byte) (s : State), s.Serves l .full → ∃ u : State,
    exec (.restart l tag []) s = .next (u.reply l 8 tag ⟨.ok, []⟩) ∧
    u.engaged = [] ∧ { u.tracker with ctr := {}, nextCopy := 0 } = {} ∧ u.tracker.ctr = s.tracker.ctr ∧
    u.follow = { state := if s.store.followEnable then .seek else .off, ctr := s.follow.ctr } ∧
    u.events = [] ∧ (∀ n : Fin 4, u.slot n = none ∧ (u.pedal n).last = none ∧
      (u.foot n).timer = none ∧ { u.pedal n with last := (s.pedal n).last } = s.pedal n ∧
      { u.foot n with timer := (s.foot n).timer } = s.foot n) ∧
    u.store = s.store ∧ u.now = s.now ∧ u.part = s.part ∧ u.counting = s.counting ∧ u.router = s.router ∧
    u.mgmt.fault = s.mgmt.fault ∧ u.mgmt.later = s.mgmt.later ∧ u.mgmt.save = s.mgmt.save ∧
    u.mgmt.lastLoad = s.mgmt.lastLoad ∧ u.mgmt.lastSave = s.mgmt.lastSave ∧
    (∀ m : Fin 12, (u.link m).up = (s.link m).up ∧ (u.link m).role = (s.link m).role ∧
      (u.link m).rights = (s.link m).rights ∧ (u.link m).ctr = (s.link m).ctr ∧ (u.link m).bins = (s.link m).bins ∧
      (u.link m).late = (s.link m).late ∧ (u.link m).realTime = [] ∧ (u.link m).deferral = []) ∧
    (let v := s.tracker.copies.foldl (State.releaseCopy 64) s
     ∀ m : Fin 12, (u.link m).release = (v.link m).release ∧ (u.link m).silenceFlag =
      ((s.link m).silenceFlag || ((s.link m).up && (s.link m).role == .module))) ∧
    (let quiet := s.CopiesLaw ∧ (s.switch.state ≠ .armed ∨ ∀ r, s.switch.armed = some r → r.gate ≠ .atRelease)
     let g := s.grant l (.mgmtReq 8 tag [20])
     let kept (m : Fin 12) : List Waiting := (g.link m).queue.filter fun w => !Frame.performance w.frame
     (s.store.setLength = 0 → { u.switch with ctr := {} } = {} ∧ { u.beat with ctr := {} } = {} ∧
       ∀ m : Fin 12, (u.link m).window = {} ∧ (∀ w ∈ (u.link m).queue, Frame.performance w.frame = false) ∧
         (quiet → (u.link m).queue = kept m)) ∧
     (s.store.setLength ≠ 0 →
       let r := s.store.get .scene (Record.sceneRef (s.store.get .song s.store.startSong) 0)
       let recalls (m : Fin 12) : List Frame := ((Record.recalls r).filter (·.link == m.val)).map (·.frame)
       let opened (m : Fin 12) : Prop := (s.link m).up = true ∧ (s.link m).role = .module ∧ recalls m ≠ []
       let T := if u16At r 16 = 0 ∨ s.store.followEnable = true then 12000 else u16At r 16
       u.switch.position = ⟨s.store.startSong, 0⟩ ∧
       u.switch.live.ident.map (fun i => (i.song, i.scene)) = some (s.store.startSong, 0) ∧
       { u.beat with ctr := {} } =
         { tempo := T, applied := inc T, pending := u8At r 19, handed := Record.click r, countIn := u8At r 22 } ∧
       ∀ m : Fin 12,
         (¬ opened m → (u.link m).window = {} ∧ (quiet → s.store.reportLink ≠ m → (u.link m).queue = kept m)) ∧
         (∀ f rest, opened m → recalls m = f :: rest → quiet →
           ((kept m).length < 64 → (u.link m).window = { state := .sending, todo := rest, fed := true } ∧
             (u.link m).queue = kept m ++ [⟨f, s.now, none, true⟩]) ∧
           (64 ≤ (kept m).length → (u.link m).window = { state := .sending, todo := f :: rest } ∧
             (u.link m).queue = kept m))))
end

