-- ==== Sys2Proof/Laws/Bank.lean ====
section
/-! SUPPORT. Reading a member of a bank after a member has been replaced, or after every member has been
changed. -/
namespace Sys2Proof.Machine

variable {α β : Type} {n : Nat}

@[simp] theorem bankGet_bankSet_same (v : Vector α n) (i : Nat) (x d : α) (h : i < n) :
    bankGet (bankSet v i x) i d = x := by
  simp [bankGet, bankSet, h]

@[simp] theorem bankGet_bankSet_other (v : Vector α n) (i j : Nat) (x d : α) (h : i ≠ j) :
    bankGet (bankSet v i x) j d = bankGet v j d := by
  simp [bankGet, bankSet, h]

theorem bankGet_bankSet (v : Vector α n) (i j : Nat) (x d : α) (h : i < n) :
    bankGet (bankSet v i x) j d = if i = j then x else bankGet v j d := by
  by_cases e : i = j
  · subst e; simp [h]
  · simp [e]

/-- Writing back what a place holds changes nothing. -/
@[simp] theorem bankSet_bankGet (v : Vector α n) (i : Nat) (d : α) : bankSet v i (bankGet v i d) = v := by
  apply Vector.ext
  intro j hj
  by_cases e : i = j
  · subst e; simp [bankSet, bankGet, hj]
  · simp [bankSet, e]

@[simp] theorem bankSet_bankSet (v : Vector α n) (i : Nat) (x y : α) :
    bankSet (bankSet v i x) i y = bankSet v i y := by
  apply Vector.ext
  intro j hj
  by_cases e : i = j
  · subst e; simp [bankSet]
  · simp [bankSet, e]

theorem bankGet_bankMap (f : α → β) (v : Vector α n) (i : Nat) (d : α) (e : β) (h : i < n) :
    bankGet (bankMap f v) i e = f (bankGet v i d) := by
  simp [bankGet, bankMap, h]

theorem bankGet_bankMapIdx (f : Nat → α → β) (v : Vector α n) (i : Nat) (d : α) (e : β) (h : i < n) :
    bankGet (bankMapIdx f v) i e = f i (bankGet v i d) := by
  simp [bankGet, bankMapIdx, h]

@[simp] theorem bankGet_replicate (i : Nat) (x d : α) (h : i < n) : bankGet (Vector.replicate n x) i d = x := by
  simp [bankGet, h]

end Sys2Proof.Machine
end

