-- ==== Sys2Proof/Laws/Image.lean ====
section
/-! SUPPORT. The records of one table, joined into an image, are read back from their place in it (R187). -/
namespace Sys2Proof.Machine

/-- The length of several records of one length, joined. -/
theorem length_flatten (rs : List Record) (len : Nat) (h : ∀ r ∈ rs, r.length = len) :
    rs.flatten.length = len * rs.length := by
  induction rs with
  | nil => rfl
  | cons r rest ih =>
    simp only [List.flatten_cons, List.length_append, List.length_cons, h r (by simp), ih fun x hx => h x (by simp [hx])]
    ring

/-- One record of several of one length, read from their joined bytes. -/
theorem slice_flatten (rs : List Record) (len : Nat) (post : List Byte) (h : ∀ r ∈ rs, r.length = len) (i : Nat)
    (hi : i < rs.length) : Record.slice (rs.flatten ++ post) (len * i) len = rs[i] := by
  induction rs generalizing i with
  | nil => simp at hi
  | cons r rest ih =>
    have hr : r.length = len := h r (by simp)
    have hrest : ∀ x ∈ rest, x.length = len := fun x hx => h x (by simp [hx])
    cases i with
    | zero => simp [Record.slice, ← hr]
    | succ k =>
      have hk : k < rest.length := by simpa using hi
      have := ih hrest k hk
      simp only [Record.slice] at this ⊢
      have e : len * (k + 1) = r.length + len * k := by rw [hr]; ring
      simp only [List.flatten_cons, List.append_assoc, List.getElem_cons_succ, e, ← List.drop_drop, List.drop_left]
      exact this

/-- A table read back from its place after `pre`. -/
theorem imageTable_eq {n : Nat} (v : Vector Record n) (len : Nat) (pre post : List Byte)
    (h : ∀ r ∈ v.toList, r.length = len) : imageTable (pre ++ (v.toList.flatten ++ post)) pre.length len n = v := by
  apply Vector.ext
  intro i hi
  have hl : i < v.toList.length := by simpa using hi
  have := slice_flatten v.toList len post h i hl
  simp only [imageTable, Record.slice, ← List.drop_drop, List.drop_left] at this ⊢
  simpa using this

end Sys2Proof.Machine
end

