-- ==== Sys2Proof/Laws/Sparse.lean ====
section
/-! SUPPORT. The sparse maps of R43 and R44: a read after a write, and the canonical form that every write
keeps. The joining of R69 keeps the addresses rising. -/
namespace Sys2Proof.Machine

@[simp] theorem Sparse.read_nil (a : Nat) : Sparse.read [] a = 0 := rfl

/-- Every address listed is above `k`. -/
def Sparse.above (k : Nat) (m : Sparse) : Prop := ∀ e ∈ m, k < e.1

theorem Sparse.rising_cons (k v : Nat) (m : Sparse) :
    Sparse.rising ((k, v) :: m) = true ↔ Sparse.above k m ∧ m.rising = true := by
  induction m generalizing k v with
  | nil => simp [Sparse.rising, Sparse.above]
  | cons e r ih =>
    obtain ⟨k', v'⟩ := e
    have h := ih k' v'
    simp only [Sparse.rising, Bool.and_eq_true, decide_eq_true_eq]
    constructor
    · rintro ⟨h1, h2⟩
      refine ⟨?_, h2⟩
      have h3 := (h.1 h2).1
      intro e he
      rcases List.mem_cons.1 he with rfl | he
      · exact h1
      · exact lt_trans h1 (h3 e he)
    · rintro ⟨h1, h2⟩
      exact ⟨h1 (k', v') (by simp), h2⟩

theorem Sparse.read_of_above (m : Sparse) (k a : Nat) (h : Sparse.above k m) (ha : a ≤ k) : m.read a = 0 := by
  induction m with
  | nil => rfl
  | cons e r ih =>
    obtain ⟨k', v'⟩ := e
    have h1 : k < k' := h (k', v') (by simp)
    have h2 : k' ≠ a := by omega
    simp only [Sparse.read, h2, if_false]
    exact ih fun e he => h e (by simp [he])

theorem Sparse.mem_put (m : Sparse) (a v : Nat) (e : Nat × Nat) (h : e ∈ m.put a v) : e = (a, v) ∨ e ∈ m := by
  induction m with
  | nil => simpa [Sparse.put] using h
  | cons x r ih =>
    obtain ⟨k, w⟩ := x
    simp only [Sparse.put] at h
    split at h
    · simpa using h
    · split at h
      · rcases List.mem_cons.1 h with h | h
        · exact .inl h
        · exact .inr (by simp [h])
      · rcases List.mem_cons.1 h with h | h
        · exact .inr (by simp [h])
        · exact (ih h).imp id fun h => by simp [h]

theorem Sparse.mem_drop (m : Sparse) (a : Nat) (e : Nat × Nat) (h : e ∈ m.drop a) : e ∈ m := by
  induction m with
  | nil => simp [Sparse.drop] at h
  | cons x r ih =>
    obtain ⟨k, w⟩ := x
    simp only [Sparse.drop] at h
    split at h
    · simp [h]
    · rcases List.mem_cons.1 h with h | h
      · simp [h]
      · simp [ih h]

theorem Sparse.mem_join (m : Sparse) (a v : Nat) (e : Nat × Nat) (h : e ∈ m.join a v) : e = (a, v) ∨ e ∈ m := by
  induction m with
  | nil => simpa [Sparse.join] using h
  | cons x r ih =>
    obtain ⟨k, w⟩ := x
    simp only [Sparse.join] at h
    split at h
    · simpa using h
    · split at h
      · exact .inr h
      · rcases List.mem_cons.1 h with h | h
        · exact .inr (by simp [h])
        · exact (ih h).imp id fun h => by simp [h]

theorem Sparse.rising_put (m : Sparse) (a v : Nat) (h : m.rising = true) : (m.put a v).rising = true := by
  induction m with
  | nil => rfl
  | cons x r ih =>
    obtain ⟨k, w⟩ := x
    obtain ⟨h1, h2⟩ := (Sparse.rising_cons k w r).1 h
    simp only [Sparse.put]
    split
    case isTrue hlt =>
      refine (Sparse.rising_cons a v _).2 ⟨fun e he => ?_, h⟩
      rcases List.mem_cons.1 he with rfl | he
      · exact hlt
      · exact lt_trans hlt (h1 e he)
    case isFalse hge =>
      split
      case isTrue heq =>
        subst heq
        exact (Sparse.rising_cons a v r).2 ⟨h1, h2⟩
      case isFalse hne =>
        refine (Sparse.rising_cons k w _).2 ⟨fun e he => ?_, ih h2⟩
        rcases Sparse.mem_put r a v e he with rfl | he
        · show k < a; omega
        · exact h1 e he

theorem Sparse.rising_drop (m : Sparse) (a : Nat) (h : m.rising = true) : (m.drop a).rising = true := by
  induction m with
  | nil => rfl
  | cons x r ih =>
    obtain ⟨k, w⟩ := x
    obtain ⟨h1, h2⟩ := (Sparse.rising_cons k w r).1 h
    simp only [Sparse.drop]
    split
    · exact h2
    · exact (Sparse.rising_cons k w _).2 ⟨fun e he => h1 e (Sparse.mem_drop r a e he), ih h2⟩

/-- R69: a release set stays in order. -/
theorem Sparse.rising_join (m : Sparse) (a v : Nat) (h : m.rising = true) : (m.join a v).rising = true := by
  induction m with
  | nil => rfl
  | cons x r ih =>
    obtain ⟨k, w⟩ := x
    obtain ⟨h1, h2⟩ := (Sparse.rising_cons k w r).1 h
    simp only [Sparse.join]
    split
    case isTrue hlt =>
      refine (Sparse.rising_cons a v _).2 ⟨fun e he => ?_, h⟩
      rcases List.mem_cons.1 he with rfl | he
      · exact hlt
      · exact lt_trans hlt (h1 e he)
    case isFalse hge =>
      split
      case isTrue heq => exact h
      case isFalse hne =>
        refine (Sparse.rising_cons k w _).2 ⟨fun e he => ?_, ih h2⟩
        rcases Sparse.mem_join r a v e he with rfl | he
        · show k < a; omega
        · exact h1 e he

theorem Sparse.read_put (m : Sparse) (a v b : Nat) (h : m.rising = true) :
    (m.put a v).read b = if a = b then v else m.read b := by
  induction m with
  | nil => simp [Sparse.put, Sparse.read]
  | cons x r ih =>
    obtain ⟨k, w⟩ := x
    obtain ⟨_, h2⟩ := (Sparse.rising_cons k w r).1 h
    simp only [Sparse.put]
    split
    · simp [Sparse.read]
    · split
      case isTrue heq =>
        subst heq
        simp only [Sparse.read]
        split <;> rfl
      case isFalse hne =>
        simp only [Sparse.read, ih h2]
        by_cases hk : k = b
        · subst hk; simp [hne]
        · simp [hk]

theorem Sparse.read_drop (m : Sparse) (a b : Nat) (h : m.rising = true) :
    (m.drop a).read b = if a = b then 0 else m.read b := by
  induction m with
  | nil => simp [Sparse.drop]
  | cons x r ih =>
    obtain ⟨k, w⟩ := x
    obtain ⟨h1, h2⟩ := (Sparse.rising_cons k w r).1 h
    simp only [Sparse.drop]
    split
    case isTrue heq =>
      subst heq
      by_cases hb : k = b
      · subst hb; simp [Sparse.read_of_above r k k h1 le_rfl]
      · simp [Sparse.read, hb]
    case isFalse hne =>
      simp only [Sparse.read, ih h2]
      by_cases hk : k = b
      · subst hk; simp [Ne.symm hne]
      · simp [hk]

/-- What a read gives after a write: the value written there, and elsewhere what it gave before. -/
theorem Sparse.read_write (m : Sparse) (a v b : Nat) (h : m.wf = true) :
    (m.write a v).read b = if a = b then v else m.read b := by
  have hr : m.rising = true := by simp only [Sparse.wf, Bool.and_eq_true] at h; exact h.1
  unfold Sparse.write
  split
  case isTrue h0 => subst h0; exact Sparse.read_drop m a b hr
  case isFalse h0 => exact Sparse.read_put m a v b hr

/-- Every write keeps the canonical form. -/
theorem Sparse.wf_write (m : Sparse) (a v : Nat) (h : m.wf = true) : (m.write a v).wf = true := by
  simp only [Sparse.wf, Bool.and_eq_true, List.all_eq_true] at h ⊢
  unfold Sparse.write
  split
  case isTrue h0 =>
    exact ⟨Sparse.rising_drop m a h.1, fun e he => h.2 e (Sparse.mem_drop m a e he)⟩
  case isFalse h0 =>
    refine ⟨Sparse.rising_put m a v h.1, fun e he => ?_⟩
    rcases Sparse.mem_put m a v e he with rfl | he
    · simpa using h0
    · exact h.2 e he

/-- Leaving entries out keeps the canonical form. -/
theorem Sparse.wf_filter (m : Sparse) (p : Nat × Nat → Bool) (h : m.wf = true) : Sparse.wf (m.filter p) = true := by
  induction m with
  | nil => rfl
  | cons x r ih =>
    obtain ⟨k, w⟩ := x
    simp only [Sparse.wf, Bool.and_eq_true, List.all_cons] at h ih
    obtain ⟨hr, h0, ha⟩ := h
    obtain ⟨h1, h2⟩ := (Sparse.rising_cons k w r).1 hr
    have ih' := ih ⟨h2, ha⟩
    simp only [List.filter_cons]
    split
    · simp only [Sparse.wf, Bool.and_eq_true, List.all_cons]
      exact ⟨(Sparse.rising_cons k w _).2 ⟨fun e he => h1 e (List.mem_filter.1 he).1, ih'.1⟩, h0, ih'.2⟩
    · simpa [Sparse.wf] using ih'

end Sys2Proof.Machine
end

