-- ==== Sys2Proof/Laws/State.lean ====
section
/-! SUPPORT. The small lemmas of the state's updates: for each update and each field of State that the update
leaves alone, that it does so; and what reading one link, slot, pedal or footswitch gives after a write. -/
namespace Sys2Proof.Machine

/-! ### Reading one of several -/

@[simp] theorem State.link_setLink_same (s : State) (l : Nat) (k : Link) (h : l < 12) : (s.setLink l k).link l = k :=
  bankGet_bankSet_same _ _ _ _ h
@[simp] theorem State.link_setLink_other (s : State) (l m : Nat) (k : Link) (h : l ≠ m) :
    (s.setLink l k).link m = s.link m := bankGet_bankSet_other _ _ _ _ _ h
theorem State.link_onLink (s : State) (l m : Nat) (f : Link → Link) (h : l < 12) :
    (s.onLink l f).link m = if l = m then f (s.link m) else s.link m := by
  by_cases e : l = m
  · subst e; simp [State.onLink, h]
  · simp [State.onLink, e]
theorem State.link_onLinks (s : State) (m : Nat) (f : Nat → Link → Link) (h : m < 12) :
    (s.onLinks f).link m = f m (s.link m) := bankGet_bankMapIdx f s.links m {} {} h
@[simp] theorem State.setLink_link (s : State) (l : Nat) : s.setLink l (s.link l) = s := by
  simp [State.setLink, State.link]
@[simp] theorem State.setLink_setLink (s : State) (l : Nat) (j k : Link) :
    (s.setLink l j).setLink l k = s.setLink l k := by simp [State.setLink]
@[simp] theorem State.slot_setSlot_same (s : State) (n : Nat) (x : Option Slot) (h : n < 4) :
    (s.setSlot n x).slot n = x := bankGet_bankSet_same _ _ _ _ h
@[simp] theorem State.slot_setSlot_other (s : State) (n m : Nat) (x : Option Slot) (h : n ≠ m) :
    (s.setSlot n x).slot m = s.slot m := bankGet_bankSet_other _ _ _ _ _ h
@[simp] theorem State.pedal_onPedal_same (s : State) (p : Nat) (f : Pedal → Pedal) (h : p < 4) :
    (s.onPedal p f).pedal p = f (s.pedal p) := bankGet_bankSet_same _ _ _ _ h
@[simp] theorem State.pedal_onPedal_other (s : State) (p q : Nat) (f : Pedal → Pedal) (h : p ≠ q) :
    (s.onPedal p f).pedal q = s.pedal q := bankGet_bankSet_other _ _ _ _ _ h
/-- R167: what a sample that no command brings does to its pedal (log entry 18). -/
theorem State.pedal_sampleAlone (s : State) (p : Nat) (h : p < 4) :
    (s.sampleAlone p).pedal p =
      { (s.pedal p).sampled [Config.adcSample s.drawn p % 1024] with next := (s.pedal p).next + Config.sampleTime } :=
  bankGet_bankSet_same _ _ _ _ h
@[simp] theorem State.foot_onFoot_same (s : State) (i : Nat) (f : Foot → Foot) (h : i < 4) :
    (s.onFoot i f).foot i = f (s.foot i) := bankGet_bankSet_same _ _ _ _ h
@[simp] theorem State.foot_onFoot_other (s : State) (i j : Nat) (f : Foot → Foot) (h : i ≠ j) :
    (s.onFoot i f).foot j = s.foot j := bankGet_bankSet_other _ _ _ _ _ h

/-! ### Fields that an update leaves alone -/

variable (s : State)

@[simp] theorem State.setLink_pending (l : Nat) (k : Link) : (s.setLink l k).pending = s.pending := rfl
@[simp] theorem State.setLink_drawn (l : Nat) (k : Link) : (s.setLink l k).drawn = s.drawn := rfl
@[simp] theorem State.setLink_now (l : Nat) (k : Link) : (s.setLink l k).now = s.now := rfl
@[simp] theorem State.setLink_part (l : Nat) (k : Link) : (s.setLink l k).part = s.part := rfl
@[simp] theorem State.setLink_loadBy (l : Nat) (k : Link) : (s.setLink l k).loadBy = s.loadBy := rfl
@[simp] theorem State.setLink_pointer (l : Nat) (k : Link) : (s.setLink l k).pointer = s.pointer := rfl
@[simp] theorem State.setLink_store (l : Nat) (k : Link) : (s.setLink l k).store = s.store := rfl
@[simp] theorem State.setLink_engaged (l : Nat) (k : Link) : (s.setLink l k).engaged = s.engaged := rfl
@[simp] theorem State.setLink_router (l : Nat) (k : Link) : (s.setLink l k).router = s.router := rfl
@[simp] theorem State.setLink_tracker (l : Nat) (k : Link) : (s.setLink l k).tracker = s.tracker := rfl
@[simp] theorem State.setLink_counting (l : Nat) (k : Link) : (s.setLink l k).counting = s.counting := rfl
@[simp] theorem State.setLink_switch (l : Nat) (k : Link) : (s.setLink l k).switch = s.switch := rfl
@[simp] theorem State.setLink_beat (l : Nat) (k : Link) : (s.setLink l k).beat = s.beat := rfl
@[simp] theorem State.setLink_follow (l : Nat) (k : Link) : (s.setLink l k).follow = s.follow := rfl
@[simp] theorem State.setLink_pedals (l : Nat) (k : Link) : (s.setLink l k).pedals = s.pedals := rfl
@[simp] theorem State.setLink_foots (l : Nat) (k : Link) : (s.setLink l k).foots = s.foots := rfl
@[simp] theorem State.setLink_events (l : Nat) (k : Link) : (s.setLink l k).events = s.events := rfl
@[simp] theorem State.setLink_mgmt (l : Nat) (k : Link) : (s.setLink l k).mgmt = s.mgmt := rfl

@[simp] theorem State.onLink_pending (l : Nat) (f : Link → Link) : (s.onLink l f).pending = s.pending := rfl
@[simp] theorem State.onLink_drawn (l : Nat) (f : Link → Link) : (s.onLink l f).drawn = s.drawn := rfl
@[simp] theorem State.onLink_now (l : Nat) (f : Link → Link) : (s.onLink l f).now = s.now := rfl
@[simp] theorem State.onLink_part (l : Nat) (f : Link → Link) : (s.onLink l f).part = s.part := rfl
@[simp] theorem State.onLink_loadBy (l : Nat) (f : Link → Link) : (s.onLink l f).loadBy = s.loadBy := rfl
@[simp] theorem State.onLink_pointer (l : Nat) (f : Link → Link) : (s.onLink l f).pointer = s.pointer := rfl
@[simp] theorem State.onLink_store (l : Nat) (f : Link → Link) : (s.onLink l f).store = s.store := rfl
@[simp] theorem State.onLink_engaged (l : Nat) (f : Link → Link) : (s.onLink l f).engaged = s.engaged := rfl
@[simp] theorem State.onLink_router (l : Nat) (f : Link → Link) : (s.onLink l f).router = s.router := rfl
@[simp] theorem State.onLink_tracker (l : Nat) (f : Link → Link) : (s.onLink l f).tracker = s.tracker := rfl
@[simp] theorem State.onLink_counting (l : Nat) (f : Link → Link) : (s.onLink l f).counting = s.counting := rfl
@[simp] theorem State.onLink_switch (l : Nat) (f : Link → Link) : (s.onLink l f).switch = s.switch := rfl
@[simp] theorem State.onLink_beat (l : Nat) (f : Link → Link) : (s.onLink l f).beat = s.beat := rfl
@[simp] theorem State.onLink_follow (l : Nat) (f : Link → Link) : (s.onLink l f).follow = s.follow := rfl
@[simp] theorem State.onLink_pedals (l : Nat) (f : Link → Link) : (s.onLink l f).pedals = s.pedals := rfl
@[simp] theorem State.onLink_foots (l : Nat) (f : Link → Link) : (s.onLink l f).foots = s.foots := rfl
@[simp] theorem State.onLink_events (l : Nat) (f : Link → Link) : (s.onLink l f).events = s.events := rfl
@[simp] theorem State.onLink_mgmt (l : Nat) (f : Link → Link) : (s.onLink l f).mgmt = s.mgmt := rfl

@[simp] theorem State.onLinks_pending (f : Nat → Link → Link) : (s.onLinks f).pending = s.pending := rfl
@[simp] theorem State.onLinks_drawn (f : Nat → Link → Link) : (s.onLinks f).drawn = s.drawn := rfl
@[simp] theorem State.onLinks_now (f : Nat → Link → Link) : (s.onLinks f).now = s.now := rfl
@[simp] theorem State.onLinks_part (f : Nat → Link → Link) : (s.onLinks f).part = s.part := rfl
@[simp] theorem State.onLinks_loadBy (f : Nat → Link → Link) : (s.onLinks f).loadBy = s.loadBy := rfl
@[simp] theorem State.onLinks_pointer (f : Nat → Link → Link) : (s.onLinks f).pointer = s.pointer := rfl
@[simp] theorem State.onLinks_store (f : Nat → Link → Link) : (s.onLinks f).store = s.store := rfl
@[simp] theorem State.onLinks_engaged (f : Nat → Link → Link) : (s.onLinks f).engaged = s.engaged := rfl
@[simp] theorem State.onLinks_router (f : Nat → Link → Link) : (s.onLinks f).router = s.router := rfl
@[simp] theorem State.onLinks_tracker (f : Nat → Link → Link) : (s.onLinks f).tracker = s.tracker := rfl
@[simp] theorem State.onLinks_counting (f : Nat → Link → Link) : (s.onLinks f).counting = s.counting := rfl
@[simp] theorem State.onLinks_switch (f : Nat → Link → Link) : (s.onLinks f).switch = s.switch := rfl
@[simp] theorem State.onLinks_beat (f : Nat → Link → Link) : (s.onLinks f).beat = s.beat := rfl
@[simp] theorem State.onLinks_follow (f : Nat → Link → Link) : (s.onLinks f).follow = s.follow := rfl
@[simp] theorem State.onLinks_pedals (f : Nat → Link → Link) : (s.onLinks f).pedals = s.pedals := rfl
@[simp] theorem State.onLinks_foots (f : Nat → Link → Link) : (s.onLinks f).foots = s.foots := rfl
@[simp] theorem State.onLinks_events (f : Nat → Link → Link) : (s.onLinks f).events = s.events := rfl
@[simp] theorem State.onLinks_mgmt (f : Nat → Link → Link) : (s.onLinks f).mgmt = s.mgmt := rfl

@[simp] theorem State.draw_pending : s.draw.pending = s.pending := rfl
@[simp] theorem State.draw_now : s.draw.now = s.now := rfl
@[simp] theorem State.draw_part : s.draw.part = s.part := rfl
@[simp] theorem State.draw_loadBy : s.draw.loadBy = s.loadBy := rfl
@[simp] theorem State.draw_links : s.draw.links = s.links := rfl
@[simp] theorem State.draw_pointer : s.draw.pointer = s.pointer := rfl
@[simp] theorem State.draw_store : s.draw.store = s.store := rfl
@[simp] theorem State.draw_engaged : s.draw.engaged = s.engaged := rfl
@[simp] theorem State.draw_router : s.draw.router = s.router := rfl
@[simp] theorem State.draw_tracker : s.draw.tracker = s.tracker := rfl
@[simp] theorem State.draw_counting : s.draw.counting = s.counting := rfl
@[simp] theorem State.draw_switch : s.draw.switch = s.switch := rfl
@[simp] theorem State.draw_beat : s.draw.beat = s.beat := rfl
@[simp] theorem State.draw_follow : s.draw.follow = s.follow := rfl
@[simp] theorem State.draw_pedals : s.draw.pedals = s.pedals := rfl
@[simp] theorem State.draw_foots : s.draw.foots = s.foots := rfl
@[simp] theorem State.draw_events : s.draw.events = s.events := rfl
@[simp] theorem State.draw_mgmt : s.draw.mgmt = s.mgmt := rfl

@[simp] theorem State.count_pending (l : Nat) (f : LinkCounters → LinkCounters) : (s.count l f).pending = s.pending := rfl
@[simp] theorem State.count_drawn (l : Nat) (f : LinkCounters → LinkCounters) : (s.count l f).drawn = s.drawn := rfl
@[simp] theorem State.count_now (l : Nat) (f : LinkCounters → LinkCounters) : (s.count l f).now = s.now := rfl
@[simp] theorem State.count_part (l : Nat) (f : LinkCounters → LinkCounters) : (s.count l f).part = s.part := rfl
@[simp] theorem State.count_loadBy (l : Nat) (f : LinkCounters → LinkCounters) : (s.count l f).loadBy = s.loadBy := rfl
@[simp] theorem State.count_pointer (l : Nat) (f : LinkCounters → LinkCounters) : (s.count l f).pointer = s.pointer := rfl
@[simp] theorem State.count_store (l : Nat) (f : LinkCounters → LinkCounters) : (s.count l f).store = s.store := rfl
@[simp] theorem State.count_engaged (l : Nat) (f : LinkCounters → LinkCounters) : (s.count l f).engaged = s.engaged := rfl
@[simp] theorem State.count_router (l : Nat) (f : LinkCounters → LinkCounters) : (s.count l f).router = s.router := rfl
@[simp] theorem State.count_tracker (l : Nat) (f : LinkCounters → LinkCounters) : (s.count l f).tracker = s.tracker := rfl
@[simp] theorem State.count_counting (l : Nat) (f : LinkCounters → LinkCounters) : (s.count l f).counting = s.counting := rfl
@[simp] theorem State.count_switch (l : Nat) (f : LinkCounters → LinkCounters) : (s.count l f).switch = s.switch := rfl
@[simp] theorem State.count_beat (l : Nat) (f : LinkCounters → LinkCounters) : (s.count l f).beat = s.beat := rfl
@[simp] theorem State.count_follow (l : Nat) (f : LinkCounters → LinkCounters) : (s.count l f).follow = s.follow := rfl
@[simp] theorem State.count_pedals (l : Nat) (f : LinkCounters → LinkCounters) : (s.count l f).pedals = s.pedals := rfl
@[simp] theorem State.count_foots (l : Nat) (f : LinkCounters → LinkCounters) : (s.count l f).foots = s.foots := rfl
@[simp] theorem State.count_events (l : Nat) (f : LinkCounters → LinkCounters) : (s.count l f).events = s.events := rfl
@[simp] theorem State.count_mgmt (l : Nat) (f : LinkCounters → LinkCounters) : (s.count l f).mgmt = s.mgmt := rfl

@[simp] theorem State.countOut_pending (l : Nat) (f : OutCounters → OutCounters) : (s.countOut l f).pending = s.pending := rfl
@[simp] theorem State.countOut_drawn (l : Nat) (f : OutCounters → OutCounters) : (s.countOut l f).drawn = s.drawn := rfl
@[simp] theorem State.countOut_now (l : Nat) (f : OutCounters → OutCounters) : (s.countOut l f).now = s.now := rfl
@[simp] theorem State.countOut_part (l : Nat) (f : OutCounters → OutCounters) : (s.countOut l f).part = s.part := rfl
@[simp] theorem State.countOut_loadBy (l : Nat) (f : OutCounters → OutCounters) : (s.countOut l f).loadBy = s.loadBy := rfl
@[simp] theorem State.countOut_pointer (l : Nat) (f : OutCounters → OutCounters) : (s.countOut l f).pointer = s.pointer := rfl
@[simp] theorem State.countOut_store (l : Nat) (f : OutCounters → OutCounters) : (s.countOut l f).store = s.store := rfl
@[simp] theorem State.countOut_engaged (l : Nat) (f : OutCounters → OutCounters) : (s.countOut l f).engaged = s.engaged := rfl
@[simp] theorem State.countOut_router (l : Nat) (f : OutCounters → OutCounters) : (s.countOut l f).router = s.router := rfl
@[simp] theorem State.countOut_tracker (l : Nat) (f : OutCounters → OutCounters) : (s.countOut l f).tracker = s.tracker := rfl
@[simp] theorem State.countOut_counting (l : Nat) (f : OutCounters → OutCounters) : (s.countOut l f).counting = s.counting := rfl
@[simp] theorem State.countOut_switch (l : Nat) (f : OutCounters → OutCounters) : (s.countOut l f).switch = s.switch := rfl
@[simp] theorem State.countOut_beat (l : Nat) (f : OutCounters → OutCounters) : (s.countOut l f).beat = s.beat := rfl
@[simp] theorem State.countOut_follow (l : Nat) (f : OutCounters → OutCounters) : (s.countOut l f).follow = s.follow := rfl
@[simp] theorem State.countOut_pedals (l : Nat) (f : OutCounters → OutCounters) : (s.countOut l f).pedals = s.pedals := rfl
@[simp] theorem State.countOut_foots (l : Nat) (f : OutCounters → OutCounters) : (s.countOut l f).foots = s.foots := rfl
@[simp] theorem State.countOut_events (l : Nat) (f : OutCounters → OutCounters) : (s.countOut l f).events = s.events := rfl
@[simp] theorem State.countOut_mgmt (l : Nat) (f : OutCounters → OutCounters) : (s.countOut l f).mgmt = s.mgmt := rfl

@[simp] theorem State.countRouter_pending (f : RouterCounters → RouterCounters) : (s.countRouter f).pending = s.pending := rfl
@[simp] theorem State.countRouter_drawn (f : RouterCounters → RouterCounters) : (s.countRouter f).drawn = s.drawn := rfl
@[simp] theorem State.countRouter_now (f : RouterCounters → RouterCounters) : (s.countRouter f).now = s.now := rfl
@[simp] theorem State.countRouter_part (f : RouterCounters → RouterCounters) : (s.countRouter f).part = s.part := rfl
@[simp] theorem State.countRouter_loadBy (f : RouterCounters → RouterCounters) : (s.countRouter f).loadBy = s.loadBy := rfl
@[simp] theorem State.countRouter_links (f : RouterCounters → RouterCounters) : (s.countRouter f).links = s.links := rfl
@[simp] theorem State.countRouter_pointer (f : RouterCounters → RouterCounters) : (s.countRouter f).pointer = s.pointer := rfl
@[simp] theorem State.countRouter_store (f : RouterCounters → RouterCounters) : (s.countRouter f).store = s.store := rfl
@[simp] theorem State.countRouter_engaged (f : RouterCounters → RouterCounters) : (s.countRouter f).engaged = s.engaged := rfl
@[simp] theorem State.countRouter_tracker (f : RouterCounters → RouterCounters) : (s.countRouter f).tracker = s.tracker := rfl
@[simp] theorem State.countRouter_counting (f : RouterCounters → RouterCounters) : (s.countRouter f).counting = s.counting := rfl
@[simp] theorem State.countRouter_switch (f : RouterCounters → RouterCounters) : (s.countRouter f).switch = s.switch := rfl
@[simp] theorem State.countRouter_beat (f : RouterCounters → RouterCounters) : (s.countRouter f).beat = s.beat := rfl
@[simp] theorem State.countRouter_follow (f : RouterCounters → RouterCounters) : (s.countRouter f).follow = s.follow := rfl
@[simp] theorem State.countRouter_pedals (f : RouterCounters → RouterCounters) : (s.countRouter f).pedals = s.pedals := rfl
@[simp] theorem State.countRouter_foots (f : RouterCounters → RouterCounters) : (s.countRouter f).foots = s.foots := rfl
@[simp] theorem State.countRouter_events (f : RouterCounters → RouterCounters) : (s.countRouter f).events = s.events := rfl
@[simp] theorem State.countRouter_mgmt (f : RouterCounters → RouterCounters) : (s.countRouter f).mgmt = s.mgmt := rfl

@[simp] theorem State.countTracker_pending (f : TrackerCounters → TrackerCounters) : (s.countTracker f).pending = s.pending := rfl
@[simp] theorem State.countTracker_drawn (f : TrackerCounters → TrackerCounters) : (s.countTracker f).drawn = s.drawn := rfl
@[simp] theorem State.countTracker_now (f : TrackerCounters → TrackerCounters) : (s.countTracker f).now = s.now := rfl
@[simp] theorem State.countTracker_part (f : TrackerCounters → TrackerCounters) : (s.countTracker f).part = s.part := rfl
@[simp] theorem State.countTracker_loadBy (f : TrackerCounters → TrackerCounters) : (s.countTracker f).loadBy = s.loadBy := rfl
@[simp] theorem State.countTracker_links (f : TrackerCounters → TrackerCounters) : (s.countTracker f).links = s.links := rfl
@[simp] theorem State.countTracker_pointer (f : TrackerCounters → TrackerCounters) : (s.countTracker f).pointer = s.pointer := rfl
@[simp] theorem State.countTracker_store (f : TrackerCounters → TrackerCounters) : (s.countTracker f).store = s.store := rfl
@[simp] theorem State.countTracker_engaged (f : TrackerCounters → TrackerCounters) : (s.countTracker f).engaged = s.engaged := rfl
@[simp] theorem State.countTracker_router (f : TrackerCounters → TrackerCounters) : (s.countTracker f).router = s.router := rfl
@[simp] theorem State.countTracker_counting (f : TrackerCounters → TrackerCounters) : (s.countTracker f).counting = s.counting := rfl
@[simp] theorem State.countTracker_switch (f : TrackerCounters → TrackerCounters) : (s.countTracker f).switch = s.switch := rfl
@[simp] theorem State.countTracker_beat (f : TrackerCounters → TrackerCounters) : (s.countTracker f).beat = s.beat := rfl
@[simp] theorem State.countTracker_follow (f : TrackerCounters → TrackerCounters) : (s.countTracker f).follow = s.follow := rfl
@[simp] theorem State.countTracker_pedals (f : TrackerCounters → TrackerCounters) : (s.countTracker f).pedals = s.pedals := rfl
@[simp] theorem State.countTracker_foots (f : TrackerCounters → TrackerCounters) : (s.countTracker f).foots = s.foots := rfl
@[simp] theorem State.countTracker_events (f : TrackerCounters → TrackerCounters) : (s.countTracker f).events = s.events := rfl
@[simp] theorem State.countTracker_mgmt (f : TrackerCounters → TrackerCounters) : (s.countTracker f).mgmt = s.mgmt := rfl

@[simp] theorem State.onTracker_pending (f : Tracker → Tracker) : (s.onTracker f).pending = s.pending := rfl
@[simp] theorem State.onTracker_drawn (f : Tracker → Tracker) : (s.onTracker f).drawn = s.drawn := rfl
@[simp] theorem State.onTracker_now (f : Tracker → Tracker) : (s.onTracker f).now = s.now := rfl
@[simp] theorem State.onTracker_part (f : Tracker → Tracker) : (s.onTracker f).part = s.part := rfl
@[simp] theorem State.onTracker_loadBy (f : Tracker → Tracker) : (s.onTracker f).loadBy = s.loadBy := rfl
@[simp] theorem State.onTracker_links (f : Tracker → Tracker) : (s.onTracker f).links = s.links := rfl
@[simp] theorem State.onTracker_pointer (f : Tracker → Tracker) : (s.onTracker f).pointer = s.pointer := rfl
@[simp] theorem State.onTracker_store (f : Tracker → Tracker) : (s.onTracker f).store = s.store := rfl
@[simp] theorem State.onTracker_engaged (f : Tracker → Tracker) : (s.onTracker f).engaged = s.engaged := rfl
@[simp] theorem State.onTracker_router (f : Tracker → Tracker) : (s.onTracker f).router = s.router := rfl
@[simp] theorem State.onTracker_counting (f : Tracker → Tracker) : (s.onTracker f).counting = s.counting := rfl
@[simp] theorem State.onTracker_switch (f : Tracker → Tracker) : (s.onTracker f).switch = s.switch := rfl
@[simp] theorem State.onTracker_beat (f : Tracker → Tracker) : (s.onTracker f).beat = s.beat := rfl
@[simp] theorem State.onTracker_follow (f : Tracker → Tracker) : (s.onTracker f).follow = s.follow := rfl
@[simp] theorem State.onTracker_pedals (f : Tracker → Tracker) : (s.onTracker f).pedals = s.pedals := rfl
@[simp] theorem State.onTracker_foots (f : Tracker → Tracker) : (s.onTracker f).foots = s.foots := rfl
@[simp] theorem State.onTracker_events (f : Tracker → Tracker) : (s.onTracker f).events = s.events := rfl
@[simp] theorem State.onTracker_mgmt (f : Tracker → Tracker) : (s.onTracker f).mgmt = s.mgmt := rfl

@[simp] theorem State.setCount_pending (l ch key n : Nat) : (s.setCount l ch key n).pending = s.pending := rfl
@[simp] theorem State.setCount_drawn (l ch key n : Nat) : (s.setCount l ch key n).drawn = s.drawn := rfl
@[simp] theorem State.setCount_now (l ch key n : Nat) : (s.setCount l ch key n).now = s.now := rfl
@[simp] theorem State.setCount_part (l ch key n : Nat) : (s.setCount l ch key n).part = s.part := rfl
@[simp] theorem State.setCount_loadBy (l ch key n : Nat) : (s.setCount l ch key n).loadBy = s.loadBy := rfl
@[simp] theorem State.setCount_links (l ch key n : Nat) : (s.setCount l ch key n).links = s.links := rfl
@[simp] theorem State.setCount_pointer (l ch key n : Nat) : (s.setCount l ch key n).pointer = s.pointer := rfl
@[simp] theorem State.setCount_store (l ch key n : Nat) : (s.setCount l ch key n).store = s.store := rfl
@[simp] theorem State.setCount_engaged (l ch key n : Nat) : (s.setCount l ch key n).engaged = s.engaged := rfl
@[simp] theorem State.setCount_router (l ch key n : Nat) : (s.setCount l ch key n).router = s.router := rfl
@[simp] theorem State.setCount_counting (l ch key n : Nat) : (s.setCount l ch key n).counting = s.counting := rfl
@[simp] theorem State.setCount_switch (l ch key n : Nat) : (s.setCount l ch key n).switch = s.switch := rfl
@[simp] theorem State.setCount_beat (l ch key n : Nat) : (s.setCount l ch key n).beat = s.beat := rfl
@[simp] theorem State.setCount_follow (l ch key n : Nat) : (s.setCount l ch key n).follow = s.follow := rfl
@[simp] theorem State.setCount_pedals (l ch key n : Nat) : (s.setCount l ch key n).pedals = s.pedals := rfl
@[simp] theorem State.setCount_foots (l ch key n : Nat) : (s.setCount l ch key n).foots = s.foots := rfl
@[simp] theorem State.setCount_events (l ch key n : Nat) : (s.setCount l ch key n).events = s.events := rfl
@[simp] theorem State.setCount_mgmt (l ch key n : Nat) : (s.setCount l ch key n).mgmt = s.mgmt := rfl

@[simp] theorem State.setHold_pending (src ch n : Nat) : (s.setHold src ch n).pending = s.pending := rfl
@[simp] theorem State.setHold_drawn (src ch n : Nat) : (s.setHold src ch n).drawn = s.drawn := rfl
@[simp] theorem State.setHold_now (src ch n : Nat) : (s.setHold src ch n).now = s.now := rfl
@[simp] theorem State.setHold_part (src ch n : Nat) : (s.setHold src ch n).part = s.part := rfl
@[simp] theorem State.setHold_loadBy (src ch n : Nat) : (s.setHold src ch n).loadBy = s.loadBy := rfl
@[simp] theorem State.setHold_links (src ch n : Nat) : (s.setHold src ch n).links = s.links := rfl
@[simp] theorem State.setHold_pointer (src ch n : Nat) : (s.setHold src ch n).pointer = s.pointer := rfl
@[simp] theorem State.setHold_store (src ch n : Nat) : (s.setHold src ch n).store = s.store := rfl
@[simp] theorem State.setHold_engaged (src ch n : Nat) : (s.setHold src ch n).engaged = s.engaged := rfl
@[simp] theorem State.setHold_router (src ch n : Nat) : (s.setHold src ch n).router = s.router := rfl
@[simp] theorem State.setHold_counting (src ch n : Nat) : (s.setHold src ch n).counting = s.counting := rfl
@[simp] theorem State.setHold_switch (src ch n : Nat) : (s.setHold src ch n).switch = s.switch := rfl
@[simp] theorem State.setHold_beat (src ch n : Nat) : (s.setHold src ch n).beat = s.beat := rfl
@[simp] theorem State.setHold_follow (src ch n : Nat) : (s.setHold src ch n).follow = s.follow := rfl
@[simp] theorem State.setHold_pedals (src ch n : Nat) : (s.setHold src ch n).pedals = s.pedals := rfl
@[simp] theorem State.setHold_foots (src ch n : Nat) : (s.setHold src ch n).foots = s.foots := rfl
@[simp] theorem State.setHold_events (src ch n : Nat) : (s.setHold src ch n).events = s.events := rfl
@[simp] theorem State.setHold_mgmt (src ch n : Nat) : (s.setHold src ch n).mgmt = s.mgmt := rfl

@[simp] theorem State.countSwitch_pending (f : SwitchCounters → SwitchCounters) : (s.countSwitch f).pending = s.pending := rfl
@[simp] theorem State.countSwitch_drawn (f : SwitchCounters → SwitchCounters) : (s.countSwitch f).drawn = s.drawn := rfl
@[simp] theorem State.countSwitch_now (f : SwitchCounters → SwitchCounters) : (s.countSwitch f).now = s.now := rfl
@[simp] theorem State.countSwitch_part (f : SwitchCounters → SwitchCounters) : (s.countSwitch f).part = s.part := rfl
@[simp] theorem State.countSwitch_loadBy (f : SwitchCounters → SwitchCounters) : (s.countSwitch f).loadBy = s.loadBy := rfl
@[simp] theorem State.countSwitch_links (f : SwitchCounters → SwitchCounters) : (s.countSwitch f).links = s.links := rfl
@[simp] theorem State.countSwitch_pointer (f : SwitchCounters → SwitchCounters) : (s.countSwitch f).pointer = s.pointer := rfl
@[simp] theorem State.countSwitch_store (f : SwitchCounters → SwitchCounters) : (s.countSwitch f).store = s.store := rfl
@[simp] theorem State.countSwitch_engaged (f : SwitchCounters → SwitchCounters) : (s.countSwitch f).engaged = s.engaged := rfl
@[simp] theorem State.countSwitch_router (f : SwitchCounters → SwitchCounters) : (s.countSwitch f).router = s.router := rfl
@[simp] theorem State.countSwitch_tracker (f : SwitchCounters → SwitchCounters) : (s.countSwitch f).tracker = s.tracker := rfl
@[simp] theorem State.countSwitch_counting (f : SwitchCounters → SwitchCounters) : (s.countSwitch f).counting = s.counting := rfl
@[simp] theorem State.countSwitch_beat (f : SwitchCounters → SwitchCounters) : (s.countSwitch f).beat = s.beat := rfl
@[simp] theorem State.countSwitch_follow (f : SwitchCounters → SwitchCounters) : (s.countSwitch f).follow = s.follow := rfl
@[simp] theorem State.countSwitch_pedals (f : SwitchCounters → SwitchCounters) : (s.countSwitch f).pedals = s.pedals := rfl
@[simp] theorem State.countSwitch_foots (f : SwitchCounters → SwitchCounters) : (s.countSwitch f).foots = s.foots := rfl
@[simp] theorem State.countSwitch_events (f : SwitchCounters → SwitchCounters) : (s.countSwitch f).events = s.events := rfl
@[simp] theorem State.countSwitch_mgmt (f : SwitchCounters → SwitchCounters) : (s.countSwitch f).mgmt = s.mgmt := rfl

@[simp] theorem State.countBeat_pending (f : BeatCounters → BeatCounters) : (s.countBeat f).pending = s.pending := rfl
@[simp] theorem State.countBeat_drawn (f : BeatCounters → BeatCounters) : (s.countBeat f).drawn = s.drawn := rfl
@[simp] theorem State.countBeat_now (f : BeatCounters → BeatCounters) : (s.countBeat f).now = s.now := rfl
@[simp] theorem State.countBeat_part (f : BeatCounters → BeatCounters) : (s.countBeat f).part = s.part := rfl
@[simp] theorem State.countBeat_loadBy (f : BeatCounters → BeatCounters) : (s.countBeat f).loadBy = s.loadBy := rfl
@[simp] theorem State.countBeat_links (f : BeatCounters → BeatCounters) : (s.countBeat f).links = s.links := rfl
@[simp] theorem State.countBeat_pointer (f : BeatCounters → BeatCounters) : (s.countBeat f).pointer = s.pointer := rfl
@[simp] theorem State.countBeat_store (f : BeatCounters → BeatCounters) : (s.countBeat f).store = s.store := rfl
@[simp] theorem State.countBeat_engaged (f : BeatCounters → BeatCounters) : (s.countBeat f).engaged = s.engaged := rfl
@[simp] theorem State.countBeat_router (f : BeatCounters → BeatCounters) : (s.countBeat f).router = s.router := rfl
@[simp] theorem State.countBeat_tracker (f : BeatCounters → BeatCounters) : (s.countBeat f).tracker = s.tracker := rfl
@[simp] theorem State.countBeat_counting (f : BeatCounters → BeatCounters) : (s.countBeat f).counting = s.counting := rfl
@[simp] theorem State.countBeat_switch (f : BeatCounters → BeatCounters) : (s.countBeat f).switch = s.switch := rfl
@[simp] theorem State.countBeat_follow (f : BeatCounters → BeatCounters) : (s.countBeat f).follow = s.follow := rfl
@[simp] theorem State.countBeat_pedals (f : BeatCounters → BeatCounters) : (s.countBeat f).pedals = s.pedals := rfl
@[simp] theorem State.countBeat_foots (f : BeatCounters → BeatCounters) : (s.countBeat f).foots = s.foots := rfl
@[simp] theorem State.countBeat_events (f : BeatCounters → BeatCounters) : (s.countBeat f).events = s.events := rfl
@[simp] theorem State.countBeat_mgmt (f : BeatCounters → BeatCounters) : (s.countBeat f).mgmt = s.mgmt := rfl

@[simp] theorem State.countFollow_pending (f : FollowCounters → FollowCounters) : (s.countFollow f).pending = s.pending := rfl
@[simp] theorem State.countFollow_drawn (f : FollowCounters → FollowCounters) : (s.countFollow f).drawn = s.drawn := rfl
@[simp] theorem State.countFollow_now (f : FollowCounters → FollowCounters) : (s.countFollow f).now = s.now := rfl
@[simp] theorem State.countFollow_part (f : FollowCounters → FollowCounters) : (s.countFollow f).part = s.part := rfl
@[simp] theorem State.countFollow_loadBy (f : FollowCounters → FollowCounters) : (s.countFollow f).loadBy = s.loadBy := rfl
@[simp] theorem State.countFollow_links (f : FollowCounters → FollowCounters) : (s.countFollow f).links = s.links := rfl
@[simp] theorem State.countFollow_pointer (f : FollowCounters → FollowCounters) : (s.countFollow f).pointer = s.pointer := rfl
@[simp] theorem State.countFollow_store (f : FollowCounters → FollowCounters) : (s.countFollow f).store = s.store := rfl
@[simp] theorem State.countFollow_engaged (f : FollowCounters → FollowCounters) : (s.countFollow f).engaged = s.engaged := rfl
@[simp] theorem State.countFollow_router (f : FollowCounters → FollowCounters) : (s.countFollow f).router = s.router := rfl
@[simp] theorem State.countFollow_tracker (f : FollowCounters → FollowCounters) : (s.countFollow f).tracker = s.tracker := rfl
@[simp] theorem State.countFollow_counting (f : FollowCounters → FollowCounters) : (s.countFollow f).counting = s.counting := rfl
@[simp] theorem State.countFollow_switch (f : FollowCounters → FollowCounters) : (s.countFollow f).switch = s.switch := rfl
@[simp] theorem State.countFollow_beat (f : FollowCounters → FollowCounters) : (s.countFollow f).beat = s.beat := rfl
@[simp] theorem State.countFollow_pedals (f : FollowCounters → FollowCounters) : (s.countFollow f).pedals = s.pedals := rfl
@[simp] theorem State.countFollow_foots (f : FollowCounters → FollowCounters) : (s.countFollow f).foots = s.foots := rfl
@[simp] theorem State.countFollow_events (f : FollowCounters → FollowCounters) : (s.countFollow f).events = s.events := rfl
@[simp] theorem State.countFollow_mgmt (f : FollowCounters → FollowCounters) : (s.countFollow f).mgmt = s.mgmt := rfl

@[simp] theorem State.onFollow_pending (f : Follow → Follow) : (s.onFollow f).pending = s.pending := rfl
@[simp] theorem State.onFollow_drawn (f : Follow → Follow) : (s.onFollow f).drawn = s.drawn := rfl
@[simp] theorem State.onFollow_now (f : Follow → Follow) : (s.onFollow f).now = s.now := rfl
@[simp] theorem State.onFollow_part (f : Follow → Follow) : (s.onFollow f).part = s.part := rfl
@[simp] theorem State.onFollow_loadBy (f : Follow → Follow) : (s.onFollow f).loadBy = s.loadBy := rfl
@[simp] theorem State.onFollow_links (f : Follow → Follow) : (s.onFollow f).links = s.links := rfl
@[simp] theorem State.onFollow_pointer (f : Follow → Follow) : (s.onFollow f).pointer = s.pointer := rfl
@[simp] theorem State.onFollow_store (f : Follow → Follow) : (s.onFollow f).store = s.store := rfl
@[simp] theorem State.onFollow_engaged (f : Follow → Follow) : (s.onFollow f).engaged = s.engaged := rfl
@[simp] theorem State.onFollow_router (f : Follow → Follow) : (s.onFollow f).router = s.router := rfl
@[simp] theorem State.onFollow_tracker (f : Follow → Follow) : (s.onFollow f).tracker = s.tracker := rfl
@[simp] theorem State.onFollow_counting (f : Follow → Follow) : (s.onFollow f).counting = s.counting := rfl
@[simp] theorem State.onFollow_switch (f : Follow → Follow) : (s.onFollow f).switch = s.switch := rfl
@[simp] theorem State.onFollow_beat (f : Follow → Follow) : (s.onFollow f).beat = s.beat := rfl
@[simp] theorem State.onFollow_pedals (f : Follow → Follow) : (s.onFollow f).pedals = s.pedals := rfl
@[simp] theorem State.onFollow_foots (f : Follow → Follow) : (s.onFollow f).foots = s.foots := rfl
@[simp] theorem State.onFollow_events (f : Follow → Follow) : (s.onFollow f).events = s.events := rfl
@[simp] theorem State.onFollow_mgmt (f : Follow → Follow) : (s.onFollow f).mgmt = s.mgmt := rfl

@[simp] theorem State.countMgmt_pending (f : MgmtCounters → MgmtCounters) : (s.countMgmt f).pending = s.pending := rfl
@[simp] theorem State.countMgmt_drawn (f : MgmtCounters → MgmtCounters) : (s.countMgmt f).drawn = s.drawn := rfl
@[simp] theorem State.countMgmt_now (f : MgmtCounters → MgmtCounters) : (s.countMgmt f).now = s.now := rfl
@[simp] theorem State.countMgmt_part (f : MgmtCounters → MgmtCounters) : (s.countMgmt f).part = s.part := rfl
@[simp] theorem State.countMgmt_loadBy (f : MgmtCounters → MgmtCounters) : (s.countMgmt f).loadBy = s.loadBy := rfl
@[simp] theorem State.countMgmt_links (f : MgmtCounters → MgmtCounters) : (s.countMgmt f).links = s.links := rfl
@[simp] theorem State.countMgmt_pointer (f : MgmtCounters → MgmtCounters) : (s.countMgmt f).pointer = s.pointer := rfl
@[simp] theorem State.countMgmt_store (f : MgmtCounters → MgmtCounters) : (s.countMgmt f).store = s.store := rfl
@[simp] theorem State.countMgmt_engaged (f : MgmtCounters → MgmtCounters) : (s.countMgmt f).engaged = s.engaged := rfl
@[simp] theorem State.countMgmt_router (f : MgmtCounters → MgmtCounters) : (s.countMgmt f).router = s.router := rfl
@[simp] theorem State.countMgmt_tracker (f : MgmtCounters → MgmtCounters) : (s.countMgmt f).tracker = s.tracker := rfl
@[simp] theorem State.countMgmt_counting (f : MgmtCounters → MgmtCounters) : (s.countMgmt f).counting = s.counting := rfl
@[simp] theorem State.countMgmt_switch (f : MgmtCounters → MgmtCounters) : (s.countMgmt f).switch = s.switch := rfl
@[simp] theorem State.countMgmt_beat (f : MgmtCounters → MgmtCounters) : (s.countMgmt f).beat = s.beat := rfl
@[simp] theorem State.countMgmt_follow (f : MgmtCounters → MgmtCounters) : (s.countMgmt f).follow = s.follow := rfl
@[simp] theorem State.countMgmt_pedals (f : MgmtCounters → MgmtCounters) : (s.countMgmt f).pedals = s.pedals := rfl
@[simp] theorem State.countMgmt_foots (f : MgmtCounters → MgmtCounters) : (s.countMgmt f).foots = s.foots := rfl
@[simp] theorem State.countMgmt_events (f : MgmtCounters → MgmtCounters) : (s.countMgmt f).events = s.events := rfl

@[simp] theorem State.setSlot_pending (n : Nat) (x : Option Slot) : (s.setSlot n x).pending = s.pending := rfl
@[simp] theorem State.setSlot_drawn (n : Nat) (x : Option Slot) : (s.setSlot n x).drawn = s.drawn := rfl
@[simp] theorem State.setSlot_now (n : Nat) (x : Option Slot) : (s.setSlot n x).now = s.now := rfl
@[simp] theorem State.setSlot_part (n : Nat) (x : Option Slot) : (s.setSlot n x).part = s.part := rfl
@[simp] theorem State.setSlot_loadBy (n : Nat) (x : Option Slot) : (s.setSlot n x).loadBy = s.loadBy := rfl
@[simp] theorem State.setSlot_links (n : Nat) (x : Option Slot) : (s.setSlot n x).links = s.links := rfl
@[simp] theorem State.setSlot_pointer (n : Nat) (x : Option Slot) : (s.setSlot n x).pointer = s.pointer := rfl
@[simp] theorem State.setSlot_store (n : Nat) (x : Option Slot) : (s.setSlot n x).store = s.store := rfl
@[simp] theorem State.setSlot_engaged (n : Nat) (x : Option Slot) : (s.setSlot n x).engaged = s.engaged := rfl
@[simp] theorem State.setSlot_router (n : Nat) (x : Option Slot) : (s.setSlot n x).router = s.router := rfl
@[simp] theorem State.setSlot_tracker (n : Nat) (x : Option Slot) : (s.setSlot n x).tracker = s.tracker := rfl
@[simp] theorem State.setSlot_counting (n : Nat) (x : Option Slot) : (s.setSlot n x).counting = s.counting := rfl
@[simp] theorem State.setSlot_switch (n : Nat) (x : Option Slot) : (s.setSlot n x).switch = s.switch := rfl
@[simp] theorem State.setSlot_beat (n : Nat) (x : Option Slot) : (s.setSlot n x).beat = s.beat := rfl
@[simp] theorem State.setSlot_follow (n : Nat) (x : Option Slot) : (s.setSlot n x).follow = s.follow := rfl
@[simp] theorem State.setSlot_pedals (n : Nat) (x : Option Slot) : (s.setSlot n x).pedals = s.pedals := rfl
@[simp] theorem State.setSlot_foots (n : Nat) (x : Option Slot) : (s.setSlot n x).foots = s.foots := rfl
@[simp] theorem State.setSlot_events (n : Nat) (x : Option Slot) : (s.setSlot n x).events = s.events := rfl

@[simp] theorem State.onPedal_pending (p : Nat) (f : Pedal → Pedal) : (s.onPedal p f).pending = s.pending := rfl
@[simp] theorem State.onPedal_drawn (p : Nat) (f : Pedal → Pedal) : (s.onPedal p f).drawn = s.drawn := rfl
@[simp] theorem State.onPedal_now (p : Nat) (f : Pedal → Pedal) : (s.onPedal p f).now = s.now := rfl
@[simp] theorem State.onPedal_part (p : Nat) (f : Pedal → Pedal) : (s.onPedal p f).part = s.part := rfl
@[simp] theorem State.onPedal_loadBy (p : Nat) (f : Pedal → Pedal) : (s.onPedal p f).loadBy = s.loadBy := rfl
@[simp] theorem State.onPedal_links (p : Nat) (f : Pedal → Pedal) : (s.onPedal p f).links = s.links := rfl
@[simp] theorem State.onPedal_pointer (p : Nat) (f : Pedal → Pedal) : (s.onPedal p f).pointer = s.pointer := rfl
@[simp] theorem State.onPedal_store (p : Nat) (f : Pedal → Pedal) : (s.onPedal p f).store = s.store := rfl
@[simp] theorem State.onPedal_engaged (p : Nat) (f : Pedal → Pedal) : (s.onPedal p f).engaged = s.engaged := rfl
@[simp] theorem State.onPedal_router (p : Nat) (f : Pedal → Pedal) : (s.onPedal p f).router = s.router := rfl
@[simp] theorem State.onPedal_tracker (p : Nat) (f : Pedal → Pedal) : (s.onPedal p f).tracker = s.tracker := rfl
@[simp] theorem State.onPedal_counting (p : Nat) (f : Pedal → Pedal) : (s.onPedal p f).counting = s.counting := rfl
@[simp] theorem State.onPedal_switch (p : Nat) (f : Pedal → Pedal) : (s.onPedal p f).switch = s.switch := rfl
@[simp] theorem State.onPedal_beat (p : Nat) (f : Pedal → Pedal) : (s.onPedal p f).beat = s.beat := rfl
@[simp] theorem State.onPedal_follow (p : Nat) (f : Pedal → Pedal) : (s.onPedal p f).follow = s.follow := rfl
@[simp] theorem State.onPedal_foots (p : Nat) (f : Pedal → Pedal) : (s.onPedal p f).foots = s.foots := rfl
@[simp] theorem State.onPedal_events (p : Nat) (f : Pedal → Pedal) : (s.onPedal p f).events = s.events := rfl
@[simp] theorem State.onPedal_mgmt (p : Nat) (f : Pedal → Pedal) : (s.onPedal p f).mgmt = s.mgmt := rfl

@[simp] theorem State.sampleAlone_pending (p : Nat) : (s.sampleAlone p).pending = s.pending := rfl
@[simp] theorem State.sampleAlone_now (p : Nat) : (s.sampleAlone p).now = s.now := rfl
@[simp] theorem State.sampleAlone_part (p : Nat) : (s.sampleAlone p).part = s.part := rfl
@[simp] theorem State.sampleAlone_loadBy (p : Nat) : (s.sampleAlone p).loadBy = s.loadBy := rfl
@[simp] theorem State.sampleAlone_links (p : Nat) : (s.sampleAlone p).links = s.links := rfl
@[simp] theorem State.sampleAlone_pointer (p : Nat) : (s.sampleAlone p).pointer = s.pointer := rfl
@[simp] theorem State.sampleAlone_store (p : Nat) : (s.sampleAlone p).store = s.store := rfl
@[simp] theorem State.sampleAlone_engaged (p : Nat) : (s.sampleAlone p).engaged = s.engaged := rfl
@[simp] theorem State.sampleAlone_router (p : Nat) : (s.sampleAlone p).router = s.router := rfl
@[simp] theorem State.sampleAlone_tracker (p : Nat) : (s.sampleAlone p).tracker = s.tracker := rfl
@[simp] theorem State.sampleAlone_counting (p : Nat) : (s.sampleAlone p).counting = s.counting := rfl
@[simp] theorem State.sampleAlone_switch (p : Nat) : (s.sampleAlone p).switch = s.switch := rfl
@[simp] theorem State.sampleAlone_beat (p : Nat) : (s.sampleAlone p).beat = s.beat := rfl
@[simp] theorem State.sampleAlone_follow (p : Nat) : (s.sampleAlone p).follow = s.follow := rfl
@[simp] theorem State.sampleAlone_foots (p : Nat) : (s.sampleAlone p).foots = s.foots := rfl
@[simp] theorem State.sampleAlone_events (p : Nat) : (s.sampleAlone p).events = s.events := rfl
@[simp] theorem State.sampleAlone_mgmt (p : Nat) : (s.sampleAlone p).mgmt = s.mgmt := rfl

@[simp] theorem State.onFoot_pending (i : Nat) (f : Foot → Foot) : (s.onFoot i f).pending = s.pending := rfl
@[simp] theorem State.onFoot_drawn (i : Nat) (f : Foot → Foot) : (s.onFoot i f).drawn = s.drawn := rfl
@[simp] theorem State.onFoot_now (i : Nat) (f : Foot → Foot) : (s.onFoot i f).now = s.now := rfl
@[simp] theorem State.onFoot_part (i : Nat) (f : Foot → Foot) : (s.onFoot i f).part = s.part := rfl
@[simp] theorem State.onFoot_loadBy (i : Nat) (f : Foot → Foot) : (s.onFoot i f).loadBy = s.loadBy := rfl
@[simp] theorem State.onFoot_links (i : Nat) (f : Foot → Foot) : (s.onFoot i f).links = s.links := rfl
@[simp] theorem State.onFoot_pointer (i : Nat) (f : Foot → Foot) : (s.onFoot i f).pointer = s.pointer := rfl
@[simp] theorem State.onFoot_store (i : Nat) (f : Foot → Foot) : (s.onFoot i f).store = s.store := rfl
@[simp] theorem State.onFoot_engaged (i : Nat) (f : Foot → Foot) : (s.onFoot i f).engaged = s.engaged := rfl
@[simp] theorem State.onFoot_router (i : Nat) (f : Foot → Foot) : (s.onFoot i f).router = s.router := rfl
@[simp] theorem State.onFoot_tracker (i : Nat) (f : Foot → Foot) : (s.onFoot i f).tracker = s.tracker := rfl
@[simp] theorem State.onFoot_counting (i : Nat) (f : Foot → Foot) : (s.onFoot i f).counting = s.counting := rfl
@[simp] theorem State.onFoot_switch (i : Nat) (f : Foot → Foot) : (s.onFoot i f).switch = s.switch := rfl
@[simp] theorem State.onFoot_beat (i : Nat) (f : Foot → Foot) : (s.onFoot i f).beat = s.beat := rfl
@[simp] theorem State.onFoot_follow (i : Nat) (f : Foot → Foot) : (s.onFoot i f).follow = s.follow := rfl
@[simp] theorem State.onFoot_pedals (i : Nat) (f : Foot → Foot) : (s.onFoot i f).pedals = s.pedals := rfl
@[simp] theorem State.onFoot_events (i : Nat) (f : Foot → Foot) : (s.onFoot i f).events = s.events := rfl
@[simp] theorem State.onFoot_mgmt (i : Nat) (f : Foot → Foot) : (s.onFoot i f).mgmt = s.mgmt := rfl

@[simp] theorem State.joinEvent_pending (e : PedalEvent) : (s.joinEvent e).pending = s.pending := rfl
@[simp] theorem State.joinEvent_drawn (e : PedalEvent) : (s.joinEvent e).drawn = s.drawn := rfl
@[simp] theorem State.joinEvent_now (e : PedalEvent) : (s.joinEvent e).now = s.now := rfl
@[simp] theorem State.joinEvent_part (e : PedalEvent) : (s.joinEvent e).part = s.part := rfl
@[simp] theorem State.joinEvent_loadBy (e : PedalEvent) : (s.joinEvent e).loadBy = s.loadBy := rfl
@[simp] theorem State.joinEvent_links (e : PedalEvent) : (s.joinEvent e).links = s.links := rfl
@[simp] theorem State.joinEvent_pointer (e : PedalEvent) : (s.joinEvent e).pointer = s.pointer := rfl
@[simp] theorem State.joinEvent_store (e : PedalEvent) : (s.joinEvent e).store = s.store := rfl
@[simp] theorem State.joinEvent_engaged (e : PedalEvent) : (s.joinEvent e).engaged = s.engaged := rfl
@[simp] theorem State.joinEvent_router (e : PedalEvent) : (s.joinEvent e).router = s.router := rfl
@[simp] theorem State.joinEvent_tracker (e : PedalEvent) : (s.joinEvent e).tracker = s.tracker := rfl
@[simp] theorem State.joinEvent_counting (e : PedalEvent) : (s.joinEvent e).counting = s.counting := rfl
@[simp] theorem State.joinEvent_switch (e : PedalEvent) : (s.joinEvent e).switch = s.switch := rfl
@[simp] theorem State.joinEvent_beat (e : PedalEvent) : (s.joinEvent e).beat = s.beat := rfl
@[simp] theorem State.joinEvent_follow (e : PedalEvent) : (s.joinEvent e).follow = s.follow := rfl
@[simp] theorem State.joinEvent_pedals (e : PedalEvent) : (s.joinEvent e).pedals = s.pedals := rfl
@[simp] theorem State.joinEvent_foots (e : PedalEvent) : (s.joinEvent e).foots = s.foots := rfl
@[simp] theorem State.joinEvent_mgmt (e : PedalEvent) : (s.joinEvent e).mgmt = s.mgmt := rfl

@[simp] theorem State.writeTempo_pending (t : Nat) : (s.writeTempo t).pending = s.pending := rfl
@[simp] theorem State.writeTempo_drawn (t : Nat) : (s.writeTempo t).drawn = s.drawn := rfl
@[simp] theorem State.writeTempo_now (t : Nat) : (s.writeTempo t).now = s.now := rfl
@[simp] theorem State.writeTempo_part (t : Nat) : (s.writeTempo t).part = s.part := rfl
@[simp] theorem State.writeTempo_loadBy (t : Nat) : (s.writeTempo t).loadBy = s.loadBy := rfl
@[simp] theorem State.writeTempo_links (t : Nat) : (s.writeTempo t).links = s.links := rfl
@[simp] theorem State.writeTempo_pointer (t : Nat) : (s.writeTempo t).pointer = s.pointer := rfl
@[simp] theorem State.writeTempo_store (t : Nat) : (s.writeTempo t).store = s.store := rfl
@[simp] theorem State.writeTempo_engaged (t : Nat) : (s.writeTempo t).engaged = s.engaged := rfl
@[simp] theorem State.writeTempo_router (t : Nat) : (s.writeTempo t).router = s.router := rfl
@[simp] theorem State.writeTempo_tracker (t : Nat) : (s.writeTempo t).tracker = s.tracker := rfl
@[simp] theorem State.writeTempo_counting (t : Nat) : (s.writeTempo t).counting = s.counting := rfl
@[simp] theorem State.writeTempo_switch (t : Nat) : (s.writeTempo t).switch = s.switch := rfl
@[simp] theorem State.writeTempo_pedals (t : Nat) : (s.writeTempo t).pedals = s.pedals := rfl
@[simp] theorem State.writeTempo_foots (t : Nat) : (s.writeTempo t).foots = s.foots := rfl
@[simp] theorem State.writeTempo_events (t : Nat) : (s.writeTempo t).events = s.events := rfl
@[simp] theorem State.writeTempo_mgmt (t : Nat) : (s.writeTempo t).mgmt = s.mgmt := rfl

@[simp] theorem State.placeNote_pending (l ch key vel id : Nat) : (s.placeNote l ch key vel id).pending = s.pending := rfl
@[simp] theorem State.placeNote_drawn (l ch key vel id : Nat) : (s.placeNote l ch key vel id).drawn = s.drawn := rfl
@[simp] theorem State.placeNote_now (l ch key vel id : Nat) : (s.placeNote l ch key vel id).now = s.now := rfl
@[simp] theorem State.placeNote_part (l ch key vel id : Nat) : (s.placeNote l ch key vel id).part = s.part := rfl
@[simp] theorem State.placeNote_loadBy (l ch key vel id : Nat) : (s.placeNote l ch key vel id).loadBy = s.loadBy := rfl
@[simp] theorem State.placeNote_pointer (l ch key vel id : Nat) : (s.placeNote l ch key vel id).pointer = s.pointer := rfl
@[simp] theorem State.placeNote_store (l ch key vel id : Nat) : (s.placeNote l ch key vel id).store = s.store := rfl
@[simp] theorem State.placeNote_engaged (l ch key vel id : Nat) : (s.placeNote l ch key vel id).engaged = s.engaged := rfl
@[simp] theorem State.placeNote_router (l ch key vel id : Nat) : (s.placeNote l ch key vel id).router = s.router := rfl
@[simp] theorem State.placeNote_tracker (l ch key vel id : Nat) : (s.placeNote l ch key vel id).tracker = s.tracker := rfl
@[simp] theorem State.placeNote_counting (l ch key vel id : Nat) : (s.placeNote l ch key vel id).counting = s.counting := rfl
@[simp] theorem State.placeNote_switch (l ch key vel id : Nat) : (s.placeNote l ch key vel id).switch = s.switch := rfl
@[simp] theorem State.placeNote_beat (l ch key vel id : Nat) : (s.placeNote l ch key vel id).beat = s.beat := rfl
@[simp] theorem State.placeNote_follow (l ch key vel id : Nat) : (s.placeNote l ch key vel id).follow = s.follow := rfl
@[simp] theorem State.placeNote_pedals (l ch key vel id : Nat) : (s.placeNote l ch key vel id).pedals = s.pedals := rfl
@[simp] theorem State.placeNote_foots (l ch key vel id : Nat) : (s.placeNote l ch key vel id).foots = s.foots := rfl
@[simp] theorem State.placeNote_events (l ch key vel id : Nat) : (s.placeNote l ch key vel id).events = s.events := rfl
@[simp] theorem State.placeNote_mgmt (l ch key vel id : Nat) : (s.placeNote l ch key vel id).mgmt = s.mgmt := rfl

@[simp] theorem State.withdraw_pending (l id : Nat) : (s.withdraw l id).pending = s.pending := rfl
@[simp] theorem State.withdraw_drawn (l id : Nat) : (s.withdraw l id).drawn = s.drawn := rfl
@[simp] theorem State.withdraw_now (l id : Nat) : (s.withdraw l id).now = s.now := rfl
@[simp] theorem State.withdraw_part (l id : Nat) : (s.withdraw l id).part = s.part := rfl
@[simp] theorem State.withdraw_loadBy (l id : Nat) : (s.withdraw l id).loadBy = s.loadBy := rfl
@[simp] theorem State.withdraw_pointer (l id : Nat) : (s.withdraw l id).pointer = s.pointer := rfl
@[simp] theorem State.withdraw_store (l id : Nat) : (s.withdraw l id).store = s.store := rfl
@[simp] theorem State.withdraw_engaged (l id : Nat) : (s.withdraw l id).engaged = s.engaged := rfl
@[simp] theorem State.withdraw_router (l id : Nat) : (s.withdraw l id).router = s.router := rfl
@[simp] theorem State.withdraw_tracker (l id : Nat) : (s.withdraw l id).tracker = s.tracker := rfl
@[simp] theorem State.withdraw_counting (l id : Nat) : (s.withdraw l id).counting = s.counting := rfl
@[simp] theorem State.withdraw_switch (l id : Nat) : (s.withdraw l id).switch = s.switch := rfl
@[simp] theorem State.withdraw_beat (l id : Nat) : (s.withdraw l id).beat = s.beat := rfl
@[simp] theorem State.withdraw_follow (l id : Nat) : (s.withdraw l id).follow = s.follow := rfl
@[simp] theorem State.withdraw_pedals (l id : Nat) : (s.withdraw l id).pedals = s.pedals := rfl
@[simp] theorem State.withdraw_foots (l id : Nat) : (s.withdraw l id).foots = s.foots := rfl
@[simp] theorem State.withdraw_events (l id : Nat) : (s.withdraw l id).events = s.events := rfl
@[simp] theorem State.withdraw_mgmt (l id : Nat) : (s.withdraw l id).mgmt = s.mgmt := rfl

@[simp] theorem State.post_pending (l ch key vel : Nat) : (s.post l ch key vel).pending = s.pending := rfl
@[simp] theorem State.post_drawn (l ch key vel : Nat) : (s.post l ch key vel).drawn = s.drawn := rfl
@[simp] theorem State.post_now (l ch key vel : Nat) : (s.post l ch key vel).now = s.now := rfl
@[simp] theorem State.post_part (l ch key vel : Nat) : (s.post l ch key vel).part = s.part := rfl
@[simp] theorem State.post_loadBy (l ch key vel : Nat) : (s.post l ch key vel).loadBy = s.loadBy := rfl
@[simp] theorem State.post_pointer (l ch key vel : Nat) : (s.post l ch key vel).pointer = s.pointer := rfl
@[simp] theorem State.post_store (l ch key vel : Nat) : (s.post l ch key vel).store = s.store := rfl
@[simp] theorem State.post_engaged (l ch key vel : Nat) : (s.post l ch key vel).engaged = s.engaged := rfl
@[simp] theorem State.post_router (l ch key vel : Nat) : (s.post l ch key vel).router = s.router := rfl
@[simp] theorem State.post_tracker (l ch key vel : Nat) : (s.post l ch key vel).tracker = s.tracker := rfl
@[simp] theorem State.post_counting (l ch key vel : Nat) : (s.post l ch key vel).counting = s.counting := rfl
@[simp] theorem State.post_switch (l ch key vel : Nat) : (s.post l ch key vel).switch = s.switch := rfl
@[simp] theorem State.post_beat (l ch key vel : Nat) : (s.post l ch key vel).beat = s.beat := rfl
@[simp] theorem State.post_follow (l ch key vel : Nat) : (s.post l ch key vel).follow = s.follow := rfl
@[simp] theorem State.post_pedals (l ch key vel : Nat) : (s.post l ch key vel).pedals = s.pedals := rfl
@[simp] theorem State.post_foots (l ch key vel : Nat) : (s.post l ch key vel).foots = s.foots := rfl
@[simp] theorem State.post_events (l ch key vel : Nat) : (s.post l ch key vel).events = s.events := rfl
@[simp] theorem State.post_mgmt (l ch key vel : Nat) : (s.post l ch key vel).mgmt = s.mgmt := rfl

@[simp] theorem State.placeRealTime_pending (l : Nat) (f : Frame) : (s.placeRealTime l f).pending = s.pending := rfl
@[simp] theorem State.placeRealTime_drawn (l : Nat) (f : Frame) : (s.placeRealTime l f).drawn = s.drawn := rfl
@[simp] theorem State.placeRealTime_now (l : Nat) (f : Frame) : (s.placeRealTime l f).now = s.now := rfl
@[simp] theorem State.placeRealTime_part (l : Nat) (f : Frame) : (s.placeRealTime l f).part = s.part := rfl
@[simp] theorem State.placeRealTime_loadBy (l : Nat) (f : Frame) : (s.placeRealTime l f).loadBy = s.loadBy := rfl
@[simp] theorem State.placeRealTime_pointer (l : Nat) (f : Frame) : (s.placeRealTime l f).pointer = s.pointer := rfl
@[simp] theorem State.placeRealTime_store (l : Nat) (f : Frame) : (s.placeRealTime l f).store = s.store := rfl
@[simp] theorem State.placeRealTime_engaged (l : Nat) (f : Frame) : (s.placeRealTime l f).engaged = s.engaged := rfl
@[simp] theorem State.placeRealTime_router (l : Nat) (f : Frame) : (s.placeRealTime l f).router = s.router := rfl
@[simp] theorem State.placeRealTime_tracker (l : Nat) (f : Frame) : (s.placeRealTime l f).tracker = s.tracker := rfl
@[simp] theorem State.placeRealTime_counting (l : Nat) (f : Frame) : (s.placeRealTime l f).counting = s.counting := rfl
@[simp] theorem State.placeRealTime_switch (l : Nat) (f : Frame) : (s.placeRealTime l f).switch = s.switch := rfl
@[simp] theorem State.placeRealTime_beat (l : Nat) (f : Frame) : (s.placeRealTime l f).beat = s.beat := rfl
@[simp] theorem State.placeRealTime_follow (l : Nat) (f : Frame) : (s.placeRealTime l f).follow = s.follow := rfl
@[simp] theorem State.placeRealTime_pedals (l : Nat) (f : Frame) : (s.placeRealTime l f).pedals = s.pedals := rfl
@[simp] theorem State.placeRealTime_foots (l : Nat) (f : Frame) : (s.placeRealTime l f).foots = s.foots := rfl
@[simp] theorem State.placeRealTime_events (l : Nat) (f : Frame) : (s.placeRealTime l f).events = s.events := rfl
@[simp] theorem State.placeRealTime_mgmt (l : Nat) (f : Frame) : (s.placeRealTime l f).mgmt = s.mgmt := rfl

@[simp] theorem State.startFrame_pending (l : Nat) (f : Frame) (fromRecall : Bool) : (s.startFrame l f fromRecall).pending = s.pending := rfl
@[simp] theorem State.startFrame_drawn (l : Nat) (f : Frame) (fromRecall : Bool) : (s.startFrame l f fromRecall).drawn = s.drawn := rfl
@[simp] theorem State.startFrame_now (l : Nat) (f : Frame) (fromRecall : Bool) : (s.startFrame l f fromRecall).now = s.now := rfl
@[simp] theorem State.startFrame_part (l : Nat) (f : Frame) (fromRecall : Bool) : (s.startFrame l f fromRecall).part = s.part := rfl
@[simp] theorem State.startFrame_loadBy (l : Nat) (f : Frame) (fromRecall : Bool) : (s.startFrame l f fromRecall).loadBy = s.loadBy := rfl
@[simp] theorem State.startFrame_pointer (l : Nat) (f : Frame) (fromRecall : Bool) : (s.startFrame l f fromRecall).pointer = s.pointer := rfl
@[simp] theorem State.startFrame_store (l : Nat) (f : Frame) (fromRecall : Bool) : (s.startFrame l f fromRecall).store = s.store := rfl
@[simp] theorem State.startFrame_engaged (l : Nat) (f : Frame) (fromRecall : Bool) : (s.startFrame l f fromRecall).engaged = s.engaged := rfl
@[simp] theorem State.startFrame_router (l : Nat) (f : Frame) (fromRecall : Bool) : (s.startFrame l f fromRecall).router = s.router := rfl
@[simp] theorem State.startFrame_tracker (l : Nat) (f : Frame) (fromRecall : Bool) : (s.startFrame l f fromRecall).tracker = s.tracker := rfl
@[simp] theorem State.startFrame_counting (l : Nat) (f : Frame) (fromRecall : Bool) : (s.startFrame l f fromRecall).counting = s.counting := rfl
@[simp] theorem State.startFrame_switch (l : Nat) (f : Frame) (fromRecall : Bool) : (s.startFrame l f fromRecall).switch = s.switch := rfl
@[simp] theorem State.startFrame_beat (l : Nat) (f : Frame) (fromRecall : Bool) : (s.startFrame l f fromRecall).beat = s.beat := rfl
@[simp] theorem State.startFrame_follow (l : Nat) (f : Frame) (fromRecall : Bool) : (s.startFrame l f fromRecall).follow = s.follow := rfl
@[simp] theorem State.startFrame_pedals (l : Nat) (f : Frame) (fromRecall : Bool) : (s.startFrame l f fromRecall).pedals = s.pedals := rfl
@[simp] theorem State.startFrame_foots (l : Nat) (f : Frame) (fromRecall : Bool) : (s.startFrame l f fromRecall).foots = s.foots := rfl
@[simp] theorem State.startFrame_events (l : Nat) (f : Frame) (fromRecall : Bool) : (s.startFrame l f fromRecall).events = s.events := rfl
@[simp] theorem State.startFrame_mgmt (l : Nat) (f : Frame) (fromRecall : Bool) : (s.startFrame l f fromRecall).mgmt = s.mgmt := rfl

@[simp] theorem State.feed_pending (l : Nat) : (s.feed l).pending = s.pending := rfl
@[simp] theorem State.feed_drawn (l : Nat) : (s.feed l).drawn = s.drawn := rfl
@[simp] theorem State.feed_now (l : Nat) : (s.feed l).now = s.now := rfl
@[simp] theorem State.feed_part (l : Nat) : (s.feed l).part = s.part := rfl
@[simp] theorem State.feed_loadBy (l : Nat) : (s.feed l).loadBy = s.loadBy := rfl
@[simp] theorem State.feed_pointer (l : Nat) : (s.feed l).pointer = s.pointer := rfl
@[simp] theorem State.feed_store (l : Nat) : (s.feed l).store = s.store := rfl
@[simp] theorem State.feed_engaged (l : Nat) : (s.feed l).engaged = s.engaged := rfl
@[simp] theorem State.feed_router (l : Nat) : (s.feed l).router = s.router := rfl
@[simp] theorem State.feed_tracker (l : Nat) : (s.feed l).tracker = s.tracker := rfl
@[simp] theorem State.feed_counting (l : Nat) : (s.feed l).counting = s.counting := rfl
@[simp] theorem State.feed_switch (l : Nat) : (s.feed l).switch = s.switch := rfl
@[simp] theorem State.feed_beat (l : Nat) : (s.feed l).beat = s.beat := rfl
@[simp] theorem State.feed_follow (l : Nat) : (s.feed l).follow = s.follow := rfl
@[simp] theorem State.feed_pedals (l : Nat) : (s.feed l).pedals = s.pedals := rfl
@[simp] theorem State.feed_foots (l : Nat) : (s.feed l).foots = s.foots := rfl
@[simp] theorem State.feed_events (l : Nat) : (s.feed l).events = s.events := rfl
@[simp] theorem State.feed_mgmt (l : Nat) : (s.feed l).mgmt = s.mgmt := rfl

@[simp] theorem State.drain_pending (l : Nat) : (s.drain l).pending = s.pending := rfl
@[simp] theorem State.drain_drawn (l : Nat) : (s.drain l).drawn = s.drawn := rfl
@[simp] theorem State.drain_now (l : Nat) : (s.drain l).now = s.now := rfl
@[simp] theorem State.drain_part (l : Nat) : (s.drain l).part = s.part := rfl
@[simp] theorem State.drain_loadBy (l : Nat) : (s.drain l).loadBy = s.loadBy := rfl
@[simp] theorem State.drain_pointer (l : Nat) : (s.drain l).pointer = s.pointer := rfl
@[simp] theorem State.drain_store (l : Nat) : (s.drain l).store = s.store := rfl
@[simp] theorem State.drain_engaged (l : Nat) : (s.drain l).engaged = s.engaged := rfl
@[simp] theorem State.drain_router (l : Nat) : (s.drain l).router = s.router := rfl
@[simp] theorem State.drain_tracker (l : Nat) : (s.drain l).tracker = s.tracker := rfl
@[simp] theorem State.drain_counting (l : Nat) : (s.drain l).counting = s.counting := rfl
@[simp] theorem State.drain_switch (l : Nat) : (s.drain l).switch = s.switch := rfl
@[simp] theorem State.drain_beat (l : Nat) : (s.drain l).beat = s.beat := rfl
@[simp] theorem State.drain_follow (l : Nat) : (s.drain l).follow = s.follow := rfl
@[simp] theorem State.drain_pedals (l : Nat) : (s.drain l).pedals = s.pedals := rfl
@[simp] theorem State.drain_foots (l : Nat) : (s.drain l).foots = s.foots := rfl
@[simp] theorem State.drain_events (l : Nat) : (s.drain l).events = s.events := rfl
@[simp] theorem State.drain_mgmt (l : Nat) : (s.drain l).mgmt = s.mgmt := rfl

@[simp] theorem State.notRouted_pending (l : Nat) : (s.notRouted l).pending = s.pending := rfl
@[simp] theorem State.notRouted_drawn (l : Nat) : (s.notRouted l).drawn = s.drawn := rfl
@[simp] theorem State.notRouted_now (l : Nat) : (s.notRouted l).now = s.now := rfl
@[simp] theorem State.notRouted_part (l : Nat) : (s.notRouted l).part = s.part := rfl
@[simp] theorem State.notRouted_loadBy (l : Nat) : (s.notRouted l).loadBy = s.loadBy := rfl
@[simp] theorem State.notRouted_pointer (l : Nat) : (s.notRouted l).pointer = s.pointer := rfl
@[simp] theorem State.notRouted_store (l : Nat) : (s.notRouted l).store = s.store := rfl
@[simp] theorem State.notRouted_engaged (l : Nat) : (s.notRouted l).engaged = s.engaged := rfl
@[simp] theorem State.notRouted_router (l : Nat) : (s.notRouted l).router = s.router := rfl
@[simp] theorem State.notRouted_tracker (l : Nat) : (s.notRouted l).tracker = s.tracker := rfl
@[simp] theorem State.notRouted_counting (l : Nat) : (s.notRouted l).counting = s.counting := rfl
@[simp] theorem State.notRouted_switch (l : Nat) : (s.notRouted l).switch = s.switch := rfl
@[simp] theorem State.notRouted_beat (l : Nat) : (s.notRouted l).beat = s.beat := rfl
@[simp] theorem State.notRouted_follow (l : Nat) : (s.notRouted l).follow = s.follow := rfl
@[simp] theorem State.notRouted_pedals (l : Nat) : (s.notRouted l).pedals = s.pedals := rfl
@[simp] theorem State.notRouted_foots (l : Nat) : (s.notRouted l).foots = s.foots := rfl
@[simp] theorem State.notRouted_events (l : Nat) : (s.notRouted l).events = s.events := rfl
@[simp] theorem State.notRouted_mgmt (l : Nat) : (s.notRouted l).mgmt = s.mgmt := rfl

end Sys2Proof.Machine
end

