-- ==== Sys2Proof/Laws/Ops.lean ====
section
/-! SUPPORT. For each shared operation, once, what it can change: the sets of fields that each group of
operations leaves alone, and the results of the small ones. -/
namespace Sys2Proof.Machine

/-! ### Which fields an operation touches -/

/-- Only the links differ. -/
def State.OnlyLinks (s t : State) : Prop := { t with links := s.links } = s

/-- Only the links and the management unit differ: the work of notices and replies. -/
def State.OnlyNotices (s t : State) : Prop := { t with links := s.links, mgmt := s.mgmt } = s

/-- Only the links and the note tracker differ: the work of notes. -/
def State.OnlyNotes (s t : State) : Prop := { t with links := s.links, tracker := s.tracker } = s

/-- Only what a commit reaches differs: the links, the notices, the switch controller with the engaged
overlays, the beat engine and the follow unit. -/
def State.OnlyScene (s t : State) : Prop :=
  { t with
    links := s.links, mgmt := s.mgmt, switch := s.switch, engaged := s.engaged, beat := s.beat
    follow := s.follow } = s

theorem State.OnlyLinks.refl (s : State) : s.OnlyLinks s := rfl
theorem State.OnlyNotices.refl (s : State) : s.OnlyNotices s := rfl
theorem State.OnlyNotes.refl (s : State) : s.OnlyNotes s := rfl
theorem State.OnlyScene.refl (s : State) : s.OnlyScene s := rfl

theorem State.OnlyLinks.trans {s t u : State} (h : s.OnlyLinks t) (g : t.OnlyLinks u) : s.OnlyLinks u := by
  cases s; cases t; cases u; simp_all [State.OnlyLinks]
theorem State.OnlyNotices.trans {s t u : State} (h : s.OnlyNotices t) (g : t.OnlyNotices u) : s.OnlyNotices u := by
  cases s; cases t; cases u; simp_all [State.OnlyNotices]
theorem State.OnlyNotes.trans {s t u : State} (h : s.OnlyNotes t) (g : t.OnlyNotes u) : s.OnlyNotes u := by
  cases s; cases t; cases u; simp_all [State.OnlyNotes]
theorem State.OnlyScene.trans {s t u : State} (h : s.OnlyScene t) (g : t.OnlyScene u) : s.OnlyScene u := by
  cases s; cases t; cases u; simp_all [State.OnlyScene]

/-- The last of several operations, and then those before it. -/
theorem State.OnlyNotices.after {s t u : State} (g : t.OnlyNotices u) (h : s.OnlyNotices t) : s.OnlyNotices u :=
  h.trans g
theorem State.OnlyNotes.after {s t u : State} (g : t.OnlyNotes u) (h : s.OnlyNotes t) : s.OnlyNotes u := h.trans g
theorem State.OnlyScene.after {s t u : State} (g : t.OnlyScene u) (h : s.OnlyScene t) : s.OnlyScene u := h.trans g

theorem State.OnlyLinks.notices {s t : State} (h : s.OnlyLinks t) : s.OnlyNotices t := by
  cases s; cases t; simp_all [State.OnlyLinks, State.OnlyNotices]
theorem State.OnlyLinks.notes {s t : State} (h : s.OnlyLinks t) : s.OnlyNotes t := by
  cases s; cases t; simp_all [State.OnlyLinks, State.OnlyNotes]
theorem State.OnlyNotices.scene {s t : State} (h : s.OnlyNotices t) : s.OnlyScene t := by
  cases s; cases t; simp_all [State.OnlyNotices, State.OnlyScene]
theorem State.OnlyLinks.scene {s t : State} (h : s.OnlyLinks t) : s.OnlyScene t := h.notices.scene

/-- What holds of an operation on every state holds of its repetition over a list. -/
theorem foldl_only {α : Type} (R : State → State → Prop) (refl : ∀ s, R s s)
    (trans : ∀ {s t u}, R s t → R t u → R s u) (f : State → α → State) (h : ∀ s a, R s (f s a)) (l : List α) :
    ∀ s, R s (l.foldl f s) := by
  induction l with
  | nil => exact refl
  | cons a r ih => exact fun s => trans (h s a) (ih (f s a))

/-! ### Links, replies and notices -/

theorem State.onLink_only (s : State) (l : Nat) (f : Link → Link) : s.OnlyLinks (s.onLink l f) := rfl
theorem State.onLinks_only (s : State) (f : Nat → Link → Link) : s.OnlyLinks (s.onLinks f) := rfl

theorem State.eachLink_only (s : State) (f : Nat → State → State) (h : ∀ l s, State.OnlyLinks s (f l s)) :
    s.OnlyLinks (s.eachLink f) :=
  foldl_only State.OnlyLinks State.OnlyLinks.refl State.OnlyLinks.trans _ (fun s l => h l s) _ s

theorem State.placeReply_only (s : State) (l : Nat) (f : Frame) : s.OnlyLinks (s.placeReply l f) := by
  unfold State.placeReply; split <;> rfl

theorem State.raise_only (s : State) (n : Notice) : s.OnlyNotices (s.raise n) := by
  unfold State.raise; split
  · rfl
  · exact (s.placeReply_only _ _).notices

/-- A notice counts itself at most, in the management unit. -/
theorem State.raise_mgmt (s : State) (n : Notice) :
    { (s.raise n).mgmt with ctr := s.mgmt.ctr } = s.mgmt := by
  unfold State.raise; split
  · rfl
  · unfold State.placeReply; split <;> rfl

theorem State.placeControl_only (s : State) (l : Nat) (f : Frame) : s.OnlyLinks (s.placeControl l f) := by
  unfold State.placeControl; dsimp only; repeat' split
  all_goals rfl

theorem State.openWindow_only (s : State) (l : Nat) : s.OnlyLinks (s.openWindow l) := rfl

theorem State.dropRecall_only (s : State) (l : Nat) : s.OnlyLinks (s.dropRecall l) := by
  unfold State.dropRecall; split
  · extract_lets u
    have h : s.OnlyLinks u := rfl
    have g : u.OnlyLinks (u.settle l) := rfl
    have d : (u.settle l).OnlyLinks (((u.settle l).beginDrain l).drain l) := rfl
    split
    · exact h
    · split
      · exact (h.trans g).trans d
      · exact h.trans g
  · rfl

theorem State.openWindows_only (s : State) : s.OnlyLinks s.openWindows := by
  refine s.eachLink_only _ fun l s => ?_
  split
  · exact s.openWindow_only l
  · exact s.dropRecall_only l

theorem State.postIf_only (s : State) (l : Nat) (c : Bool) (f : Frame) : s.OnlyLinks (s.postIf l c f) := by
  unfold State.postIf; split <;> rfl

theorem State.postPulse_only (s : State) (q : Nat) : s.OnlyLinks (s.postPulse q) := by
  refine s.eachLink_only _ fun l s => ?_
  dsimp only; split
  · exact (s.postIf_only _ _ _).trans (State.postIf_only _ _ _ _)
  · exact s.postIf_only _ _ _

theorem State.postBoundary_only (s : State) : s.OnlyLinks s.postBoundary :=
  s.eachLink_only _ fun l s =>
    ((s.postIf_only l _ _).trans (State.postIf_only _ _ _ _)).trans (State.postIf_only _ _ _ _)

theorem State.countWait_only (s : State) (l wait : Nat) : s.OnlyNotices (s.countWait l wait) := by
  unfold State.countWait; dsimp only; repeat' split
  · exact (State.raise_only _ _).after rfl
  all_goals rfl

/-! ### Time -/

@[simp] theorem State.elapse_now (s : State) (n : Nat) : (s.elapse n).now = s.now + n := by
  unfold State.elapse; split <;> rfl

@[simp] theorem State.advanceTo_now (s : State) (t : Nat) : (s.advanceTo t).now = max s.now t := by
  simp [State.advanceTo]; omega

/-- Time changes the instant and, while the transport moves, the accumulator. -/
theorem State.elapse_only (s : State) (n : Nat) :
    { s.elapse n with
      now := s.now
      beat := { (s.elapse n).beat with fraction := s.beat.fraction, owed := s.beat.owed } } = s := by
  unfold State.elapse; split <;> rfl

/-- R130: the additions of `n` µs are all in the sum, and the sum stays below one pulse. -/
theorem State.elapse_sum (s : State) (n : Nat) (h : s.beat.transport ≠ .stopped) :
    (s.elapse n).beat.fraction < Config.pulseUnits ∧
    (s.elapse n).beat.fraction + Config.pulseUnits * (s.elapse n).beat.owed =
      s.beat.fraction + n * s.beat.applied + Config.pulseUnits * s.beat.owed := by
  unfold State.elapse
  simp only [h, if_false]
  refine ⟨Nat.mod_lt _ (by decide), ?_⟩
  have := Nat.mod_add_div (s.beat.fraction + n * s.beat.applied) Config.pulseUnits
  rw [Nat.mul_add]; omega

theorem State.elapse_stopped (s : State) (n : Nat) (h : s.beat.transport = .stopped) :
    s.elapse n = { s with now := s.now + n } := by
  unfold State.elapse; simp only [h, if_true]

/-- R144: what every passing of time and every advance taken keeps, `runTo` keeps. -/
theorem State.runTo_keeps (P : State → Prop) (time : ∀ s n, P s → P (s.elapse n))
    (advance : ∀ s, P s → s.moving = true → P s.toPulse.takeAdvance) (s : State) (t : Nat) (h : P s) :
    P (s.runTo t) := by
  suffices ∀ fuel s, P s → P (s.runPulses t fuel) from this _ s h
  intro fuel
  induction fuel with
  | zero => exact fun s h => time s _ h
  | succ n ih =>
    intro s h
    unfold State.runPulses
    split
    · next due => exact ih _ (advance s h (Bool.and_eq_true_iff.mp due).1)
    · exact time s _ h

/-- R130: with no advance due before the instant, time passes and nothing else. -/
theorem State.runTo_advanceTo (s : State) (t : Nat) (h : s.moving = false ∨ s.beat.fellDue s.now t = false) :
    s.runTo t = s.advanceTo t := by
  unfold State.runTo
  generalize s.beat.owed + (t - s.now) = fuel
  cases fuel with
  | zero => rfl
  | succ n => rcases h with h | h <;> simp [State.runPulses, h]

/-- R137: catching up is `runTo` at the present instant; with the transport STOPPED, or no advance overdue, nothing
changes. -/
theorem State.caughtUp_runTo (s : State) : s.caughtUp = s.runTo s.now := rfl

theorem State.caughtUp_self (s : State) (h : s.moving = false ∨ s.beat.fellDue s.now s.now = false) :
    s.caughtUp = s.advanceTo s.now := s.runTo_advanceTo s.now h

/-! ### Grants -/

/-- A grant moves the pointer, and of the links changes one receive FIFO at most. -/
theorem State.grant_only (s : State) (l : Nat) (f : Frame) :
    { s.grant l f with links := s.links, pointer := s.pointer } = s ∧ (s.grant l f).pointer = l := by
  unfold State.grant; dsimp only; repeat' split
  all_goals exact ⟨rfl, rfl⟩

theorem State.grantPedal_only (s : State) (same : PedalEvent → Bool) :
    { s.grantPedal same with events := s.events, pointer := s.pointer } = s ∧ (s.grantPedal same).pointer = 12 := by
  unfold State.grantPedal; dsimp only; repeat' split
  all_goals exact ⟨rfl, rfl⟩

/-! ### Notes -/

theorem State.releaseCopy_only (vel : Nat) (s : State) (c : Copy) : s.OnlyNotes (s.releaseCopy vel c) := by
  unfold State.releaseCopy; dsimp only; repeat' split
  all_goals rfl

/-- R45: a release changes no entry, no hold flag, no timer and no counter of the note tracker. -/
theorem State.releaseCopy_tracker (vel : Nat) (s : State) (c : Copy) :
    { (s.releaseCopy vel c).tracker with counts := s.tracker.counts } = s.tracker := by
  unfold State.releaseCopy; dsimp only; repeat' split
  all_goals rfl

theorem State.releaseEntry_only (vel : Nat) (s : State) (e : Entry) : s.OnlyNotes (s.releaseEntry vel e) :=
  State.OnlyNotes.trans
    (foldl_only State.OnlyNotes State.OnlyNotes.refl State.OnlyNotes.trans _ (State.releaseCopy_only vel) e.copies s) rfl

theorem State.releaseAll_only (s : State) (p : Entry → Bool) : s.OnlyNotes (s.releaseAll p) :=
  foldl_only State.OnlyNotes State.OnlyNotes.refl State.OnlyNotes.trans _ (State.releaseEntry_only _) _ s

theorem State.takeCopy_only (src ch key : Nat) (s : State) (p : Plan) : s.OnlyNotes (State.takeCopy src ch key s p) := by
  unfold State.takeCopy; dsimp only; repeat' split
  all_goals rfl

theorem State.reStrike_only (s : State) (src ch key : Nat) : s.OnlyNotes (s.reStrike src ch key) := by
  unfold State.reStrike; split
  · exact (s.releaseEntry_only _ _).trans rfl
  · rfl

theorem State.steal_only (s : State) : s.OnlyNotes s.steal := by
  unfold State.steal; split
  · exact (s.releaseEntry_only _ _).trans rfl
  · rfl

theorem State.loseSource_only (s : State) (l : Nat) : s.OnlyNotes (s.loseSource l) :=
  (s.releaseAll_only _).trans rfl

theorem State.panicWork_only (s : State) : s.OnlyNotes s.panicWork :=
  State.OnlyNotes.trans (t := s.releaseAll fun _ => true) (s.releaseAll_only _) rfl

/-- R43: a destination count read after it, or another, has been written. -/
theorem State.read_setCount (s : State) (link ch key n a : Nat) (h : s.tracker.counts.wf = true) :
    (s.setCount link ch key n).tracker.counts.read a =
      if destAddr link ch key = a then n else s.tracker.counts.read a :=
  Sparse.read_write _ _ _ _ h

/-- R44: a hold flag read after it, or another, has been written. -/
theorem State.read_setHold (s : State) (src ch n a : Nat) (h : s.tracker.holds.wf = true) :
    (s.setHold src ch n).tracker.holds.read a = if holdAddr src ch = a then n else s.tracker.holds.read a :=
  Sparse.read_write _ _ _ _ h

theorem State.setCount_wf (s : State) (link ch key n : Nat) (h : s.tracker.counts.wf = true) :
    (s.setCount link ch key n).tracker.counts.wf = true := Sparse.wf_write _ _ _ h

theorem State.setHold_wf (s : State) (src ch n : Nat) (h : s.tracker.holds.wf = true) :
    (s.setHold src ch n).tracker.holds.wf = true := Sparse.wf_write _ _ _ h

/-- The sparse maps are in canonical form at reset. -/
theorem State.reset_maps : State.reset.tracker.counts.wf = true ∧ State.reset.tracker.holds.wf = true := ⟨rfl, rfl⟩

/-! ### Commits and what leads to one -/

theorem State.endRamp_only (s : State) : s.OnlyScene s.endRamp := by unfold State.endRamp; split <;> rfl

theorem State.completeRamp_only (s : State) : s.OnlyScene s.completeRamp := by
  unfold State.completeRamp; split
  · exact s.endRamp_only.trans rfl
  · rfl

theorem State.stopTransport_only (s : State) : s.OnlyScene s.stopTransport := by
  unfold State.stopTransport; split
  · refine State.OnlyScene.after (t := State.completeRamp _) rfl ((State.completeRamp_only _).after ?_)
    rfl
  · rfl

theorem State.applySceneTempo_only (s : State) (t r b : Nat) : s.OnlyScene (s.applySceneTempo t r b) := by
  unfold State.applySceneTempo; dsimp only
  split
  · rfl
  · split
    · rfl
    · split
      · exact s.endRamp_only.trans rfl
      · exact s.endRamp_only.trans rfl

theorem State.enterSegue_only (s : State) (b : Bool) : s.OnlyScene (s.enterSegue b) := by
  unfold State.enterSegue; repeat' split
  all_goals rfl

theorem State.handSettings_only (s : State) (r : Record) : s.OnlyScene (s.handSettings r) := rfl

theorem State.stopIf_only (s : State) (c : Prop) [Decidable c] : s.OnlyScene (if c then s.stopTransport else s) := by
  split
  · exact s.stopTransport_only
  · rfl

theorem State.enterIf_only (s : State) (c : Prop) [Decidable c] (b : Bool) :
    s.OnlyScene (if c then s.enterSegue b else s) := by
  split
  · exact s.enterSegue_only b
  · rfl

theorem State.handTime_only (s : State) (prev : Nat) (t : Target) (b : Bool) : s.OnlyScene (s.handTime prev t b) :=
  (((s.stopIf_only _).trans (State.applySceneTempo_only _ _ _ _)).trans (State.handSettings_only _ _)).trans
    (State.enterIf_only _ _ b)

theorem State.raiseSwitchDone_only (s : State) (c : Cause) : s.OnlyNotices (s.raiseSwitchDone c) := by
  unfold State.raiseSwitchDone; split
  · exact s.raise_only _
  · rfl

theorem State.endCommit_only (s : State) (t : Target) (c : Cause) (w : List Nat) : s.OnlyScene (s.endCommit t c w) := by
  unfold State.endCommit; dsimp only; split
  · exact (State.raiseSwitchDone_only _ _).scene.after rfl
  · rfl

/-- R119: a commit leaves the notes, the store, the router, the pedals and the timebase alone. -/
theorem State.commit_only (s : State) (t : Target) (c : Cause) (b : Bool) : s.OnlyScene (s.commit t c b) := by
  unfold State.commit; dsimp only
  refine (State.endCommit_only _ _ _ _).after ((State.handTime_only _ _ _ _).after ?_)
  exact (State.openWindows_only _).scene.after rfl

theorem State.startUp_only (s : State) : s.OnlyScene s.startUp := by
  unfold State.startUp; split
  · rfl
  · exact s.commit_only _ _ _

theorem State.arm_only (s : State) (r : Request) : s.OnlyScene (s.arm r) := by
  unfold State.arm; split
  · exact (State.commit_only _ _ _ _).after rfl
  · rfl

theorem State.takeRequest_only (s : State) (r : Request) : s.OnlyScene (s.takeRequest r) := by
  unfold State.takeRequest; dsimp only; split
  · rfl
  · exact (State.arm_only _ _).after rfl

theorem State.takeCue_only (s : State) (n k : Nat) : s.OnlyScene (s.takeCue n k) := by
  unfold State.takeCue; split
  · exact s.takeRequest_only _
  · rfl

theorem State.barGate_only (s : State) : s.OnlyScene s.barGate := by
  unfold State.barGate; dsimp only; repeat' split
  · exact s.commit_only _ _ _
  · exact (State.commit_only _ _ _ _).after rfl
  all_goals rfl

theorem State.releaseReport_only (s : State) : s.OnlyScene s.releaseReport := by
  unfold State.releaseReport; repeat' split
  · exact s.commit_only _ _ _
  all_goals rfl

theorem State.stopReport_only (s : State) : s.OnlyScene s.stopReport := by
  unfold State.stopReport; repeat' split
  · exact s.commit_only _ _ _
  all_goals rfl

theorem State.stop_only (s : State) : s.OnlyScene s.stop := by
  unfold State.stop; split
  · exact s.stopTransport_only.trans (State.stopReport_only _)
  · exact s.stopTransport_only

theorem State.doneIf_only (s : State) (c : Option Cause) :
    s.OnlyScene (match c with | some c => s.raiseSwitchDone c | none => s) := by
  cases c
  · rfl
  · exact (s.raiseSwitchDone_only _).scene

theorem State.armIf_only (s : State) (q : Option Request) :
    s.OnlyScene (match q with | some r => s.arm r | none => s) := by
  cases q
  · rfl
  · exact s.arm_only _

theorem State.recallEnd_only (s : State) : s.OnlyScene s.recallEnd := by
  unfold State.recallEnd
  extract_lets c q w u v
  have h1 : s.OnlyScene u := rfl
  exact (v.armIf_only q).after ((u.doneIf_only c).after h1)

theorem State.windowReport_only (s : State) (l : Nat) : s.OnlyScene (s.windowReport l) := by
  unfold State.windowReport; dsimp only; repeat' split
  · exact (State.recallEnd_only _).after rfl
  all_goals rfl

theorem State.postCue_only (s : State) : s.OnlyScene s.postCue := by
  unfold State.postCue; split
  · exact s.takeCue_only _ _
  · rfl

/-- The end of a boundary and of START: frames, and the cue when the transport is RUNNING. -/
theorem State.postCue_postBoundary_only (s t : State) (h : s.OnlyScene t) (c : Bool) :
    s.OnlyScene (if c = true then t.postBoundary.postCue else t.postBoundary) := by
  split
  · exact (State.postCue_only _).after (t.postBoundary_only.scene.after h)
  · exact t.postBoundary_only.scene.after h

theorem State.takeClick_only (s : State) : s.OnlyScene s.takeClick := rfl
theorem State.advanceBar_only (s : State) : s.OnlyScene s.advanceBar := rfl

theorem State.runIf_only (s : State) (c : Bool) :
    s.OnlyScene (if c = true then { s with beat := { s.beat with transport := .running } } else s) := by
  split <;> rfl

theorem State.barred_only (s : State) : s.OnlyScene { s with beat := { s.beat with current := s.beat.pending } } := rfl

theorem State.setUpBar_only (s : State) : s.OnlyScene s.setUpBar := by
  unfold State.setUpBar; split
  · exact State.OnlyScene.refl s
  · extract_lets b u b2 v
    have h1 : s.OnlyScene u := s.runIf_only _
    have h2 : s.OnlyScene v.takeClick := (h1.trans u.barred_only).trans v.takeClick_only
    exact State.postCue_postBoundary_only s v.takeClick h2 _

theorem State.stepRamp_only (s : State) : s.OnlyScene s.stepRamp := by unfold State.stepRamp; split <;> rfl

theorem State.indexed_only (s : State) (i : Nat) : s.OnlyScene { s with beat := { s.beat with index := i } } := rfl

/-- R131: a boundary leaves the notes, the store, the router, the pedals and the timebase alone. -/
theorem State.boundary_only (s : State) : s.OnlyScene s.boundary := by
  unfold State.boundary; split
  · exact (((s.indexed_only _).trans (State.stepRamp_only _)).trans (State.takeClick_only _)).trans
      (State.postBoundary_only _).scene
  · exact ((((s.indexed_only _).trans (State.stepRamp_only _)).trans (State.advanceBar_only _)).trans
      (State.barGate_only _)).trans (State.setUpBar_only _)

theorem State.startNow_only (s : State) : s.OnlyScene s.startNow := by
  unfold State.startNow
  extract_lets b u
  have h : s.OnlyScene u := rfl
  exact State.postCue_postBoundary_only s u h _

theorem State.start_only (s : State) : s.OnlyScene s.start := by
  unfold State.start; repeat' split
  · rfl
  · rfl
  · exact s.startNow_only

theorem State.followReport_only (s : State) : s.OnlyScene s.followReport := by
  unfold State.followReport; split
  · exact s.startNow_only
  · rfl

theorem State.snap_only (s : State) : s.OnlyScene s.snap := by
  unfold State.snap
  extract_lets p b u
  have h : s.OnlyScene u := rfl
  split
  · exact u.boundary_only.after h
  · exact h

/-! ### Pedals -/

/-- R167: at most 8 samples are held. -/
theorem Pedal.sampled_history_length (p : Pedal) (samples : List Nat) : (p.sampled samples).history.length ≤ 8 := by
  simp [Pedal.sampled, Config.samplesHeld]; omega

/-- R167: samples count toward the next evaluation, and none beyond the eighth. -/
theorem Pedal.sampled_phase (p : Pedal) (samples : List Nat) (h : p.phase ≤ 8) :
    (p.sampled samples).phase = min (p.phase + samples.length) 8 := by
  simp [Pedal.sampled, Config.samplesHeld]; omega

/-- R167: one sample of a pedal that lacks one joins the history, from which the oldest of 8 leaves. -/
theorem Pedal.sampled_one (p : Pedal) (v : Nat) (h : p.phase < 8) :
    p.sampled [v] = { p with history := (p.history ++ [v]).drop (p.history.length + 1 - 8), phase := p.phase + 1 } := by
  have e : 1 - (Config.samplesHeld - p.phase) = 0 := by simp [Config.samplesHeld]; omega
  simp [Pedal.sampled, e, Config.samplesHeld]

/-! ### The idle step -/

/-- Log entries 1, 3 and 18: the three things that a step on an empty queue can do. -/
theorem State.idle_cases (s : State) :
    (∃ p r, s.samplesDue false = p :: r ∧ s.idle = s.sampleAlone p) ∨
    (s.samplesDue false = [] ∧ s.due = [] ∧ s.idle = s.elapse 1) ∨
    (s.samplesDue false = [] ∧ ∃ c ∈ s.due, s.idle = { s.draw with pending := [c] }) := by
  unfold State.idle
  split
  case h_1 p r h => exact .inl ⟨p, r, h, rfl⟩
  case h_2 h =>
    split
    case h_1 e => exact .inr (.inl ⟨h, e, rfl⟩)
    case h_2 c e => exact .inr (.inr ⟨h, c, by simp [e], rfl⟩)
    case h_3 c d r e =>
      refine .inr (.inr ⟨h, _, ?_, rfl⟩)
      have lt : Config.choice s.drawn % (c :: d :: r).length < (c :: d :: r).length := Nat.mod_lt _ (by simp)
      rw [e, List.getD_eq_getElem _ _ lt]
      exact List.getElem_mem lt

/-! ### Requests -/

theorem State.reply_only (s : State) (l : Nat) (code tag : Byte) (a : Answer) : s.OnlyNotices (s.reply l code tag a) :=
  (State.placeReply_only _ _ _).notices.after rfl

theorem State.recordFault_only (s : State) (f : FaultRecord) : s.OnlyNotices (s.recordFault f) := by
  unfold State.recordFault; split
  · exact (State.raise_only _ _).after rfl
  · rfl

/-- R178: a denial, once answered, touches the management unit and the report link alone. -/
theorem State.deny_only (s : State) (l : Nat) (code table index : Byte) : s.OnlyNotices (s.deny l code table index) :=
  (State.recordFault_only _ _).after rfl

/-- R7, R9, R177: the five ways in which a request is answered, after its grant. -/
theorem State.serve_cases (s : State) (l : Nat) (code tag : Byte) (args : List Byte) (t : Terms)
    (work : State → Answer × State) :
    let g := s.grant l (.mgmtReq code tag args)
    let u := s.serve l code tag args t work
    ((g.link l).rights = .none ∧ u = g.count l fun c => { c with ignored := bump c.ignored 1 }) ∨
    (Rights.code (g.link l).rights < Rights.code t.need ∧
      u = (g.reply l code tag { status := .denied }).deny l code t.table t.index) ∨
    (t.form = false ∧ u = g.reply l code tag { status := .badRequest }) ∨
    (g.part = .loading ∧ t.loading = false ∧ u = g.reply l code tag { status := .busy }) ∨
    u = (work g).2.reply l code tag (work g).1 := by
  dsimp only [State.serve]
  split
  case isTrue h => exact .inl ⟨h, rfl⟩
  case isFalse =>
    split
    case isTrue h => exact .inr (.inl ⟨h, rfl⟩)
    case isFalse =>
      split
      case isTrue h => exact .inr (.inr (.inl ⟨by simpa using h, rfl⟩))
      case isFalse =>
        split
        case isTrue h =>
          simp only [Bool.and_eq_true, beq_iff_eq, Bool.not_eq_true'] at h
          exact .inr (.inr (.inr (.inl ⟨h.1, h.2, rfl⟩)))
        case isFalse => exact .inr (.inr (.inr (.inr rfl)))

end Sys2Proof.Machine
end

