-- ==== Sys2Proof/Laws/PerInstr.lean ====
section
/-! SUPPORT. One statement about every command as it is written, and its lemma for each. -/
namespace Sys2Proof.Laws

open Sys2Proof.Machine

/-- R4, R191: a well-formed command that is a request fits one MGMT_REQ frame: the frame is accepted. -/
def RequestFits.Statement (i : Instr) : Prop :=
  i.wf = true → ∀ a, Instr.asked i = some a → Frame.accepted a.frame = true

/-- The command code and its arguments fit a COMMAND request. -/
theorem command_fits (tag cmd : Byte) (args : List Byte) (h : argsFit 3 args = true) :
    Frame.accepted (.mgmtReq 8 tag (cmd :: args)) = true := by
  simp [argsFit, Frame.accepted] at h ⊢; omega

theorem RequestFits.powerOn : RequestFits.Statement (.powerOn) := by
  intro _ a e; cases e
theorem RequestFits.imageLoadDone (instant : Nat) (image : List Byte) : RequestFits.Statement (.imageLoadDone instant image) := by
  intro _ a e; cases e
theorem RequestFits.loadTimeout : RequestFits.Statement (.loadTimeout) := by
  intro _ a e; cases e
theorem RequestFits.frameReceived (l : Fin 12) (run : Run) : RequestFits.Statement (.frameReceived l run) := by
  intro _ a e; cases e
theorem RequestFits.silenceTimerExpiry (l : Fin 12) : RequestFits.Statement (.silenceTimerExpiry l) := by
  intro _ a e; cases e
theorem RequestFits.noteOn (l : Fin 12) (ch key vel : Nat) : RequestFits.Statement (.noteOn l ch key vel) := by
  intro _ a e; cases e
theorem RequestFits.noteOff (l : Fin 12) (ch key vel : Nat) : RequestFits.Statement (.noteOff l ch key vel) := by
  intro _ a e; cases e
theorem RequestFits.pressure (l : Fin 12) (ch key val : Nat) : RequestFits.Statement (.pressure l ch key val) := by
  intro _ a e; cases e
theorem RequestFits.control (src : Fin 13) (ch num val : Nat) : RequestFits.Statement (.control src ch num val) := by
  intro _ a e; cases e
theorem RequestFits.bend (l : Fin 12) (ch val : Nat) : RequestFits.Statement (.bend l ch val) := by
  intro _ a e; cases e
theorem RequestFits.hold (pos src : Fin 13) (ch state : Nat) : RequestFits.Statement (.hold pos src ch state) := by
  intro _ a e; cases e
theorem RequestFits.beat (l : Fin 12) (arrival : Nat) (bar : Int) (beat bpb tempo : Nat) : RequestFits.Statement (.beat l arrival bar beat bpb tempo) := by
  intro _ a e; cases e
theorem RequestFits.followSilenceTimerExpiry : RequestFits.Statement (.followSilenceTimerExpiry) := by
  intro _ a e; cases e
theorem RequestFits.transmitStart (l : Fin 12) : RequestFits.Statement (.transmitStart l) := by
  intro _ a e; cases e
theorem RequestFits.frameTransmitted (l : Fin 12) : RequestFits.Statement (.frameTransmitted l) := by
  intro _ a e; cases e
theorem RequestFits.presenceTimerExpiry (l : Fin 12) : RequestFits.Statement (.presenceTimerExpiry l) := by
  intro _ a e; cases e
theorem RequestFits.recallFeed (l : Fin 12) : RequestFits.Statement (.recallFeed l) := by
  intro _ a e; cases e
theorem RequestFits.settleTimerExpiry (l : Fin 12) : RequestFits.Statement (.settleTimerExpiry l) := by
  intro _ a e; cases e
theorem RequestFits.drainMove (l : Fin 12) : RequestFits.Statement (.drainMove l) := by
  intro _ a e; cases e
theorem RequestFits.lateTimerExpiry (l : Fin 12) : RequestFits.Statement (.lateTimerExpiry l) := by
  intro _ a e; cases e
theorem RequestFits.tableFullTimerExpiry : RequestFits.Statement (.tableFullTimerExpiry) := by
  intro _ a e; cases e
theorem RequestFits.pulse : RequestFits.Statement (.pulse) := by
  intro _ a e; cases e
theorem RequestFits.beatBoundary : RequestFits.Statement (.beatBoundary) := by
  intro _ a e; cases e
theorem RequestFits.pedalEvaluation (p : Fin 4) (instant : Nat) (samples : List Nat) : RequestFits.Statement (.pedalEvaluation p instant samples) := by
  intro _ a e; cases e
theorem RequestFits.footswitchPress (f : Fin 4) (instant : Nat) : RequestFits.Statement (.footswitchPress f instant) := by
  intro _ a e; cases e
theorem RequestFits.footswitchRelease (f : Fin 4) (instant : Nat) : RequestFits.Statement (.footswitchRelease f instant) := by
  intro _ a e; cases e
theorem RequestFits.panicHoldTimerExpiry (f : Fin 4) : RequestFits.Statement (.panicHoldTimerExpiry f) := by
  intro _ a e; cases e
theorem RequestFits.editSlotTimeout (slot : Fin 4) : RequestFits.Statement (.editSlotTimeout slot) := by
  intro _ a e; cases e
theorem RequestFits.saveDone (instant : Nat) (image : List Byte) : RequestFits.Statement (.saveDone instant image) := by
  intro _ a e; cases e
theorem RequestFits.saveTimeout : RequestFits.Statement (.saveTimeout) := by
  intro _ a e; cases e
theorem RequestFits.identify (l : Fin 12) (tag : Byte) (args : List Byte) : RequestFits.Statement (.identify l tag args) := by
  intro h a e; cases e; simpa [Instr.wf, argsFit, Asked.frame, Frame.accepted] using h
theorem RequestFits.read (l : Fin 12) (tag : Byte) (args : List Byte) : RequestFits.Statement (.read l tag args) := by
  intro h a e; cases e; simpa [Instr.wf, argsFit, Asked.frame, Frame.accepted] using h
theorem RequestFits.status (l : Fin 12) (tag : Byte) (args : List Byte) : RequestFits.Statement (.status l tag args) := by
  intro h a e; cases e; simpa [Instr.wf, argsFit, Asked.frame, Frame.accepted] using h
theorem RequestFits.editOpen (l : Fin 12) (tag : Byte) (args : List Byte) : RequestFits.Statement (.editOpen l tag args) := by
  intro h a e; cases e; simpa [Instr.wf, argsFit, Asked.frame, Frame.accepted] using h
theorem RequestFits.editPut (l : Fin 12) (tag : Byte) (args : List Byte) : RequestFits.Statement (.editPut l tag args) := by
  intro h a e; cases e; simpa [Instr.wf, argsFit, Asked.frame, Frame.accepted] using h
theorem RequestFits.editAbandon (l : Fin 12) (tag : Byte) (args : List Byte) : RequestFits.Statement (.editAbandon l tag args) := by
  intro h a e; cases e; simpa [Instr.wf, argsFit, Asked.frame, Frame.accepted] using h
theorem RequestFits.editCommit (l : Fin 12) (tag : Byte) (args : List Byte) : RequestFits.Statement (.editCommit l tag args) := by
  intro h a e; cases e; simpa [Instr.wf, argsFit, Asked.frame, Frame.accepted] using h
theorem RequestFits.select (l : Fin 12) (tag : Byte) (args : List Byte) : RequestFits.Statement (.select l tag args) := by
  intro h a e; cases e; exact command_fits tag _ args h
theorem RequestFits.nextScene (l : Fin 12) (tag : Byte) (args : List Byte) : RequestFits.Statement (.nextScene l tag args) := by
  intro h a e; cases e; exact command_fits tag _ args h
theorem RequestFits.prevScene (l : Fin 12) (tag : Byte) (args : List Byte) : RequestFits.Statement (.prevScene l tag args) := by
  intro h a e; cases e; exact command_fits tag _ args h
theorem RequestFits.nextSong (l : Fin 12) (tag : Byte) (args : List Byte) : RequestFits.Statement (.nextSong l tag args) := by
  intro h a e; cases e; exact command_fits tag _ args h
theorem RequestFits.prevSong (l : Fin 12) (tag : Byte) (args : List Byte) : RequestFits.Statement (.prevSong l tag args) := by
  intro h a e; cases e; exact command_fits tag _ args h
theorem RequestFits.apply (l : Fin 12) (tag : Byte) (args : List Byte) : RequestFits.Statement (.apply l tag args) := by
  intro h a e; cases e; exact command_fits tag _ args h
theorem RequestFits.cancelSwitch (l : Fin 12) (tag : Byte) (args : List Byte) : RequestFits.Statement (.cancelSwitch l tag args) := by
  intro h a e; cases e; exact command_fits tag _ args h
theorem RequestFits.engageOverlay (l : Fin 12) (tag : Byte) (args : List Byte) : RequestFits.Statement (.engageOverlay l tag args) := by
  intro h a e; cases e; exact command_fits tag _ args h
theorem RequestFits.releaseOverlay (l : Fin 12) (tag : Byte) (args : List Byte) : RequestFits.Statement (.releaseOverlay l tag args) := by
  intro h a e; cases e; exact command_fits tag _ args h
theorem RequestFits.start (l : Fin 12) (tag : Byte) (args : List Byte) : RequestFits.Statement (.start l tag args) := by
  intro h a e; cases e; exact command_fits tag _ args h
theorem RequestFits.stop (l : Fin 12) (tag : Byte) (args : List Byte) : RequestFits.Statement (.stop l tag args) := by
  intro h a e; cases e; exact command_fits tag _ args h
theorem RequestFits.tap (l : Fin 12) (tag : Byte) (args : List Byte) : RequestFits.Statement (.tap l tag args) := by
  intro h a e; cases e; exact command_fits tag _ args h
theorem RequestFits.setTempo (l : Fin 12) (tag : Byte) (args : List Byte) : RequestFits.Statement (.setTempo l tag args) := by
  intro h a e; cases e; exact command_fits tag _ args h
theorem RequestFits.panic (l : Fin 12) (tag : Byte) (args : List Byte) : RequestFits.Statement (.panic l tag args) := by
  intro h a e; cases e; exact command_fits tag _ args h
theorem RequestFits.histogramEnable (l : Fin 12) (tag : Byte) (args : List Byte) : RequestFits.Statement (.histogramEnable l tag args) := by
  intro h a e; cases e; exact command_fits tag _ args h
theorem RequestFits.histogramClear (l : Fin 12) (tag : Byte) (args : List Byte) : RequestFits.Statement (.histogramClear l tag args) := by
  intro h a e; cases e; exact command_fits tag _ args h
theorem RequestFits.clearStats (l : Fin 12) (tag : Byte) (args : List Byte) : RequestFits.Statement (.clearStats l tag args) := by
  intro h a e; cases e; exact command_fits tag _ args h
theorem RequestFits.clearFault (l : Fin 12) (tag : Byte) (args : List Byte) : RequestFits.Statement (.clearFault l tag args) := by
  intro h a e; cases e; exact command_fits tag _ args h
theorem RequestFits.saveImage (l : Fin 12) (tag : Byte) (args : List Byte) : RequestFits.Statement (.saveImage l tag args) := by
  intro h a e; cases e; exact command_fits tag _ args h
theorem RequestFits.restart (l : Fin 12) (tag : Byte) (args : List Byte) : RequestFits.Statement (.restart l tag args) := by
  intro h a e; cases e; exact command_fits tag _ args h
theorem RequestFits.frameNotRouted (l : Fin 12) (frame : Frame) : RequestFits.Statement (.frameNotRouted l frame) := by
  intro _ a e; cases e
theorem RequestFits.unknownRequestCode (l : Fin 12) (code tag : Byte) (args : List Byte) : RequestFits.Statement (.unknownRequestCode l code tag args) := by
  intro h a e
  simp only [Instr.wf, argsFit, Bool.and_eq_true, Bool.not_eq_true', decide_eq_true_eq] at h
  simp only [Instr.asked, h.2, Bool.false_eq_true, if_false, Option.some.injEq] at e
  subst e
  simpa [Asked.frame, Frame.accepted] using h.1
theorem RequestFits.footswitchSample (f : Fin 4) (instant : Nat) (high : Bool) : RequestFits.Statement (.footswitchSample f instant high) := by
  intro _ a e; cases e

end Sys2Proof.Laws
end

