-- ==== Sys2Proof/Tests/Slice0.lean ====
section
/-! SUPPORT. Tests: the well-formedness checks refused one by one, a witness for the hypotheses of every
statement, each clause at a boundary value, and for the commands the figures that the spec works out. -/
namespace Sys2Proof.Tests

-- One test after another: hundreds of kernel evaluations side by side run out of threads.
set_option Elab.async false

open Sys2Proof.Machine

/-! ### A small stage: link 0 a SOURCE, link 1 a MODULE, link 2 a CLICK link, all UP; the other links DOWN. -/

/-- An UP link with nothing waiting. -/
def upLink (role : Role) (rights : Rights) : Link :=
  { up := true, silence := some 300000, role := role, rights := rights, presence := 100000 }

/-- A zone from link 0, any channel, all keys, to link 1 on the same channel, with every flag set. -/
def wholeZone : Zone :=
  { source := 0, srcCh := none, keyLow := 0, keyHigh := 127, velLow := 1, velHigh := 127, destLink := 1,
    destCh := none, transpose := 0, scale := 64, offset := 0, holdFollow := true, passPressure := true,
    passBend := true, passControl := true }

/-- The zone without hold-follow. -/
def dryZone : Zone := { wholeZone with holdFollow := false }

/-- The part READY with the store of defaults, and one zone in the live copy. -/
def stage : State :=
  { (((State.reset.setLink 0 (upLink .source .full)).setLink 1 (upLink .module .command)).setLink 2
      (upLink .click .read)) with
    part := .ready
    switch := { live := { zones := [wholeZone] } } }

/-- The state a command leaves. -/
def after (c : Instr) (s : State) : State := match exec c s with | .next t => t | _ => s

/-- The copy of key 60 on link 1. -/
def copyOf (state : CopyState) : Copy := ⟨0, 1, 0, 60, 100, true, true, state⟩

/-- The entry of key 60 from link 0. -/
def entryOf (state : EntryState) (copy : CopyState) : Entry := ⟨0, 0, 60, state, [copyOf copy]⟩

/-- The stage with key 60 down: an entry with one PENDING copy, whose NOTE_ON waits on link 1. -/
def played : State :=
  { stage.setLink 1 { upLink .module .command with queue := [⟨.noteOn 0 60 100, 0, some 0, false⟩] } with
    tracker := { table := [entryOf .keyed .pending], counts := [(4156, 1)], nextCopy := 1 } }

/-- The stage with the NOTE_ON of key 60 sent, and the entry in a state. -/
def sounding (state : EntryState) (hold : Sparse) : State :=
  { stage with tracker := { table := [entryOf state .sent], counts := [(4156, 1)], holds := hold, nextCopy := 1 } }

/-- 127 KEYED entries of link 3, with no copies. -/
def otherEntries : List Entry := (List.range 127).map fun i => ⟨3, i / 64, i % 64, .keyed, []⟩

/-- The stage with a full table, its oldest entry in a state, key 60 not among them. -/
def crowded (oldest : EntryState) : State :=
  { stage with
    tracker :=
    { table := ⟨0, 1, 0, oldest, [⟨0, 1, 0, 60, 100, true, true, .sent⟩]⟩ :: otherEntries
      counts := [(4156, 1)]
      holds := [(1, 1)]
      nextCopy := 1 } }

/-- The store of defaults with another record. -/
def stored (t : Table) (i : Nat) (r : Record) : Store := Store.defaults.set t i r

/-- A system record: set length, start-up song, follow enable, follow link, report link, masks. -/
def systemRecord (len start follow link report : Nat) : Record :=
  [byte len, byte start, byte follow, byte link, byte report, 15, 255, 255, 0, 0]

/-- A default scene record with some bytes replaced. -/
def sceneRecord (off : Nat) (new : List Byte) : Record := putBytes Record.defaultScene off new

/-- A song entry: scene count, flags, the scenes 0, 1, 2, …, and cues. -/
def songRecord (count flags : Nat) (cues : List (Nat × Nat)) : Record :=
  List.replicate 16 0 ++ [byte count, byte flags, 0, 1, 2, 3, 4, 5, 6, 7, byte cues.length] ++
    putBytes (List.replicate 24 0) 0 (cues.flatMap fun c => be16 c.1 ++ [byte c.2]) ++ [0, 0]

/-- A set of two songs, the first with two scenes, the second with one; scene 1 recalls on link 1. -/
def setStore : Store :=
  { ((((Store.defaults.set .song 0 (songRecord 2 0 [(2, 1)])).set .song 1 (songRecord 1 1 [])).set .scene 1
      (sceneRecord 24 [1])).set .scene 1 (putBytes (sceneRecord 24 [1]) 224 [1, 0, 0, 0, 0, 5])) with
    system := systemRecord 2 0 0 0 0 }

/-- The stage with that set. -/
def show2 : State := { stage with store := setStore }

/-- A request as it is armed. -/
def asked (gate : Gate) : Request := ⟨⟨0, 1⟩, gate, 0, 0, .command⟩

/-- The stage's set with a request armed. -/
def armed (gate : Gate) (fallback count : Nat) : State :=
  { show2 with switch := { show2.switch with state := .armed, armed := some { asked gate with fallback := fallback, count := count } } }

/-- The stage's set, recalling on link 1. -/
def recalling (queued : Option Request) : State :=
  { show2 with switch := { show2.switch with
      state := .recalling, queued := queued, recalling := some (⟨0, 1⟩, .command), waitSet := [1]
      live := { show2.switch.live with ident := some ⟨0, 1, 1, 0⟩ } } }

/-- The stage with the transport RUNNING at a pulse. -/
def moving (pulse : Nat) : State := { stage with beat := { transport := .running, pulse := pulse } }

/-- The stage with the follow unit in a state, its last arrival at 0. -/
def following (st : FollowState) : State :=
  { stage with
    store := stored .system 0 (systemRecord 0 0 1 0 0)
    follow := { state := st, lastArrival := some 0, limit := some 1000000 } }

/-- The stage with one waiting window state on link 1. -/
def windowed (w : Window) : State := stage.setLink 1 { upLink .module .command with window := w }

/-- The stage with an edit slot open for link 0. -/
def editing (t : Table) (image : Record) : State :=
  stage.setSlot 0 (some ⟨0, t, 0, image, 0, 2000000⟩)

/-- Pedal 0 enabled, on channel 2 and number 11, lo 80, hi 940, H 8; its state `x`. -/
def pedalStage (x : Pedal) : State :=
  { stage with
    store := stored .pedal 0 [1, 2, 11, 0, 80, 3, 172, 8, 0, 0]
    pedals := bankSet stage.pedals 0 x }

/-- Eight samples of a value. -/
def eight (v : Nat) : List Nat := List.replicate 8 v

/-! ### Well-formedness: an ill-formed command for each check -/

theorem test_wf_load_needs_a_whole_image : (Instr.imageLoadDone 0 []).wf = false := by decide
theorem test_wf_readback_needs_a_whole_image : (Instr.saveDone 0 [0]).wf = false := by decide
theorem test_wf_note_on_velocity : (Instr.noteOn 0 0 60 0).wf = false := by decide
theorem test_wf_note_off_velocity : (Instr.noteOff 0 0 60 128).wf = false := by decide
theorem test_wf_pressure_key : (Instr.pressure 0 0 128 0).wf = false := by decide
theorem test_wf_control_value : (Instr.control 0 0 0 1024).wf = false := by decide
theorem test_wf_bend_value : (Instr.bend 0 0 16384).wf = false := by decide
theorem test_wf_hold_state : (Instr.hold 0 0 0 2).wf = false := by decide
theorem test_wf_hold_source : (Instr.hold 0 1 0 1).wf = false := by decide
theorem test_wf_hold_footswitch_source : (Instr.hold 12 1 0 1).wf = true := by decide
theorem test_wf_beat_bar : (Instr.beat 0 0 0 0 4 12000).wf = false := by decide
theorem test_wf_beat_tempo : (Instr.beat 0 0 1 0 4 2999).wf = false := by decide
theorem test_wf_pedal_no_sample : (Instr.pedalEvaluation 0 0 []).wf = false := by decide
theorem test_wf_pedal_samples : (Instr.pedalEvaluation 0 0 [0, 0, 0, 0, 0, 0, 0, 0, 0]).wf = false := by decide
theorem test_wf_pedal_range : (Instr.pedalEvaluation 0 0 [0, 0, 0, 0, 0, 0, 0, 1024]).wf = false := by decide
theorem test_wf_request_length : (Instr.read 0 0 (List.replicate 23 0)).wf = false := by decide
theorem test_wf_command_length : (Instr.tap 0 0 (List.replicate 22 0)).wf = false := by decide
theorem test_wf_not_routed_presence : (Instr.frameNotRouted 0 (.presence .source .ready)).wf = false := by decide
theorem test_wf_not_routed_request : (Instr.frameNotRouted 0 (.mgmtReq 1 0 [])).wf = false := by decide
theorem test_wf_not_routed_values : (Instr.frameNotRouted 0 (.clock 240)).wf = false := by decide
theorem test_wf_unknown_code : (Instr.unknownRequestCode 0 8 0 [20]).wf = false := by decide
theorem test_wf_unknown_length : (Instr.unknownRequestCode 0 9 0 (List.replicate 23 0)).wf = false := by decide

/-! ### Witnesses: steps, laws and invariants -/

/-- The busy state of the invariants: a note down, another SUSTAINED under hold, a window open, a frame waiting,
a footswitch event, an overlay engaged, and a command to run. -/
def busy : State :=
  { played with
    pending := [.noteOff 0 0 60 64], engaged := [0], events := [.hold 0 0 0 1]
    switch := { played.switch with live := { zones := [wholeZone], overlays := [⟨false, [dryZone]⟩] } }
    tracker :=
    { table := [⟨0, 0, 62, .sustained, [⟨1, 1, 0, 62, 90, true, true, .sent⟩]⟩, entryOf .keyed .pending]
      counts := [(4156, 1), (4158, 1)], holds := [(0, 1)], nextCopy := 2 } }

theorem busy_steps : ∃ t, step busy = .next t ∧ t.tracker.table.length = 2 := ⟨_, rfl, by decide +kernel⟩

theorem busy_within : busy.Within where
  links l := by constructor <;> revert l <;> decide +kernel
  table := by decide +kernel
  copies := by decide +kernel
  waits := by decide +kernel
  live := by constructor <;> decide +kernel
  engagedSize := by decide +kernel
  engaged := by decide +kernel
  overlays := by decide +kernel
  taps := by decide +kernel
  samples := by decide +kernel
  eventsSize := by decide +kernel
  events := by decide +kernel
  origins := by decide +kernel

theorem busy_notes : busy.NotesLaw where
  keys := by decide +kernel
  entries := by decide +kernel
  copies := by decide +kernel
  sustained := by decide +kernel
  held := by decide +kernel
  origins := by decide +kernel
  dests := by decide +kernel
  counts a := by
    show Sparse.read [(4156, 1), (4158, 1)] a = List.countP _ [_, _]
    by_cases h : a = 4156
    · subst h; decide
    · by_cases g : a = 4158
      · subst g; decide
      · simp [Sparse.read, destAddr, copyOf, Ne.symm h, Ne.symm g]
  bound a := by
    show Sparse.read [(4156, 1), (4158, 1)] a ≤ 7
    simp only [Sparse.read]; split_ifs <;> decide
  countsForm := by decide +kernel
  holdsForm := by decide +kernel
  live := by decide +kernel
  store := by decide +kernel

theorem busy_copies : busy.CopiesLaw where
  ids := by decide +kernel
  fresh := by decide +kernel
  pending := by decide +kernel
  owned := by
    intro l w hw _
    have h : l = 1 ∧ w = ⟨.noteOn 0 60 100, 0, some 0, false⟩ := by revert l w; decide +kernel
    obtain ⟨rfl, rfl⟩ := h
    exact ⟨copyOf .pending, by decide +kernel, rfl, rfl, rfl, rfl⟩
  recalls := by decide +kernel
  todo := by decide +kernel

/-- A state with a ramp under way and a correction set. -/
def rampState : State :=
  { stage with
    pending := [.beatBoundary]
    follow := { correction := some (-12) }
    beat := { tempo := 3000, applied := corrected 3000 (-12), transport := .running, pulse := 239
              ramp := some ⟨3000, 30000, 4, 3⟩ } }

theorem ramp_tempo : rampState.TempoLaw where
  tempo := by decide +kernel
  applied := by decide +kernel
  correction c h := by cases h; decide
  ramp r h := by cases h; decide
  loading h := by cases h
  store := by decide +kernel

theorem busy_quiet : busy.QuietLaw where
  quiet l := by revert l; decide +kernel
  click l := by revert l; decide +kernel
  counts l h ch key hc hk := by
    have n : l.val ≠ 1 := by rintro e; obtain rfl : l = 1 := Fin.ext e; revert h; decide +kernel
    have a (x : Nat) (g : 4096 ≤ x ∧ x < 8192) : x ≠ destAddr l.val ch key := by unfold destAddr; omega
    show Sparse.read [(4156, 1), (4158, 1)] (destAddr l.val ch key) = 0
    simp [Sparse.read, a]
  loading h := by cases h

/-- The set at the last pulse of a bar, a request for its second scene armed AT_BAR, an edit slot open, and the
boundary to run. -/
def atBar : State :=
  { (armed .atBar 0 0).setSlot 3 (some ⟨0, .song, 0, songRecord 1 0 [], 0, 2000000⟩) with
    pending := [.beatBoundary]
    beat := { transport := .running, pulse := 239, index := 3, bar := 32767, owed := 1 } }

theorem atBar_steps : ∃ t, step atBar = .next t ∧ t.switch.position = ⟨0, 1⟩ ∧ t.beat.index = 0 :=
  ⟨_, rfl, by decide +kernel⟩

theorem atBar_records : atBar.RecordsLaw where
  shaped := by unfold Store.Shaped; decide +kernel
  valid t i h := by cases t <;> revert i <;> decide +kernel
  slots n x h := by
    by_cases e : n = 3
    · subst e; obtain rfl : x = ⟨0, .song, 0, songRecord 1 0 [], 0, 2000000⟩ := by cases h; rfl
      decide +kernel
    · have : atBar.slot n = stage.slot n := by
        simp [atBar, State.slot, State.setSlot, armed, show2, Ne.symm e]
      rw [this] at h
      have none : ∀ m, m < 4 → stage.slot m = none := by decide +kernel
      by_cases g : n < 4
      · rw [none n g] at h; cases h
      · simp [State.slot, bankGet, g] at h

theorem atBar_switch : atBar.SwitchLaw where
  armed := by decide +kernel
  recalling := by decide +kernel
  queued := by decide +kernel
  waits := by decide +kernel
  set := by decide +kernel
  songs r h := by rcases h with h | h <;> cases h; decide +kernel
  loading h := by cases h

theorem atBar_tempo : atBar.TempoLaw where
  tempo := by decide +kernel
  applied := by decide +kernel
  correction c h := by cases h
  ramp r h := by cases h
  loading h := by cases h
  store := by decide +kernel

theorem atBar_beat : atBar.BeatLaw := by constructor <;> decide +kernel

theorem recalling_switch : (recalling (some (asked .immediate))).SwitchLaw where
  armed := by decide +kernel
  recalling := by decide +kernel
  queued := by decide +kernel
  waits := by decide +kernel
  set := by decide +kernel
  songs r h := by rcases h with h | h <;> cases h; decide +kernel
  loading h := by cases h

theorem busy_counted : busy.Counted := by constructor <;> decide +kernel

theorem witness_IdleStepLetsTimeOrAnEventIn :
    (State.reset.pending = [] ∧ State.reset.samplesDue false = [] ∧ State.reset.due = [] ∧
      State.reset.beat.transport = .stopped) ∧
    ((moving 0).pending = [] ∧ (moving 0).samplesDue false = [] ∧ (moving 0).due = [] ∧
      (moving 0).beat.transport ≠ .stopped) ∧
    (({ State.reset with now := 50 } : State).pending = [] ∧
      ({ State.reset with now := 50 } : State).samplesDue false = [] ∧
      ({ State.reset with now := 50 } : State).due ≠ []) ∧
    ((pedalStage { phase := 6 }).pending = [] ∧ (pedalStage { phase := 6 }).samplesDue false = 0 :: []) ∧
    ((pedalStage { phase := 7 }).samplesDue false = [] ∧ (pedalStage { phase := 7 }).samplesDue true = [0]) := by
  decide +kernel

theorem witness_WellFormedCommandsComplete :
    (Instr.noteOn 0 31 127 127).wf = true ∧ ∃ t, exec (.noteOn 0 31 127 127) stage = .next t :=
  ⟨by decide, _, rfl⟩

theorem witness_StepKeepsCapacities : (busy.NotesLaw ∧ busy.Within ∧ ∃ t, step busy = .next t) ∧
    (atBar.RecordsLaw ∧ atBar.SwitchLaw ∧ ∃ t, step atBar = .next t) ∧
    (recalling (some (asked .immediate))).SwitchLaw :=
  ⟨⟨busy_notes, busy_within, busy_steps.imp fun _ h => h.1⟩,
    ⟨atBar_records, atBar_switch, atBar_steps.imp fun _ h => h.1⟩, recalling_switch⟩

theorem witness_StepKeepsNoteLaws : busy.NotesLaw ∧ ∃ t, step busy = .next t :=
  ⟨busy_notes, busy_steps.imp fun _ h => h.1⟩

theorem witness_StepKeepsWaitingNotesOwned :
    busy.NotesLaw ∧ busy.CopiesLaw ∧ busy.QuietLaw ∧ ∃ t, step busy = .next t :=
  ⟨busy_notes, busy_copies, busy_quiet, busy_steps.imp fun _ h => h.1⟩

theorem witness_StepKeepsTempoInRange :
    (rampState.TempoLaw ∧ ∃ t, step rampState = .next t ∧ t.beat.tempo = 30000) ∧
    (atBar.RecordsLaw ∧ atBar.SwitchLaw ∧ atBar.TempoLaw ∧ atBar.BeatLaw ∧ ∃ t, step atBar = .next t) :=
  ⟨⟨ramp_tempo, _, rfl, by decide +kernel⟩,
    ⟨atBar_records, atBar_switch, atBar_tempo, atBar_beat, atBar_steps.imp fun _ h => h.1⟩⟩

theorem witness_StepKeepsQuietLinksQuiet : busy.NotesLaw ∧ busy.QuietLaw ∧ ∃ t, step busy = .next t :=
  ⟨busy_notes, busy_quiet, busy_steps.imp fun _ h => h.1⟩

theorem witness_CountersOnlyRise :
    busy.Counted ∧ ∃ t, exec (.tap 0 0 []) busy = .next t ∧ Instr.tap 0 0 [] ≠ .powerOn ∧
      (∀ l tag args, Instr.tap 0 0 [] ≠ .clearStats l tag args) ∧
      (∀ l tag args, Instr.tap 0 0 [] ≠ .histogramClear l tag args) :=
  ⟨busy_counted, _, rfl, by decide, nofun, nofun⟩

/-! ### Witnesses: frames, the image, arithmetic -/

/-- The run of a frame's bytes, arriving at 0. -/
def runOf (f : Frame) : Run := ⟨Frame.bytes f, false, 0⟩

/-- The bytes of NOTE_ON 0, 60, 100 by R191: kind 1, length 3; the check byte makes the sum 256. -/
def noteRun : Run := ⟨[1, 3, 0, 60, 100, 92], false, 0⟩

theorem witness_SentFramesAreReadBack :
    (Frame.accepted (.noteOn 31 127 127) = true ∧ Frame.accepted (.pressure 0 255 0) = true ∧
      Frame.accepted (.beat (-2) 15 16 30000) = true ∧ Frame.accepted (.mgmtReq 0 255 (List.replicate 22 0)) = true) ∧
    (Run.valid noteRun = true ∧ Run.frame noteRun = some (.noteOn 0 60 100)) := by decide

/-- Each table's last record is judged; a valid one, and one whose first fault is at offset 19, then 20. -/
theorem witness_ValidationNamesTheFirstFault :
    (63 < Table.size .scene ∧ 47 < Table.size .song ∧ 11 < Table.size .link ∧ 3 < Table.size .pedal ∧
      3 < Table.size .footswitch ∧ 0 < Table.size .system) ∧
    setStore.check .scene 63 = none ∧ (stored .scene 63 (sceneRecord 19 [17, 5])).check .scene 63 = some 19 ∧
    setStore.allValid = true ∧ (stored .scene 63 (sceneRecord 19 [17, 5])).allValid = false := by decide +kernel

theorem witness_ImageHoldsTheWholeStore : setStore.Shaped := by
  unfold Store.Shaped; decide +kernel

theorem witness_VelocityIsScaledAndLimited :
    let tens : Zone := { wholeZone with offset := -10 }
    let twice : Zone := { wholeZone with scale := 128 }
    ((1 : Nat) : Int) = ((1 * wholeZone.scale + 32) / 64 : Nat) + wholeZone.offset ∧
    ((127 : Nat) : Int) = ((127 * wholeZone.scale + 32) / 64 : Nat) + wholeZone.offset ∧
    ((10 * tens.scale + 32) / 64 : Nat) + tens.offset < 1 ∧
    ((64 * twice.scale + 32) / 64 : Nat) + twice.offset > 127 ∧ wholeZone.scale = 64 ∧ wholeZone.offset = 0 := by
  decide

/-- The stage with the first and the last pair of a release set on link 1. -/
def posted : State := stage.setLink 1 { upLink .module .command with release := [(0, 64), (4095, 5)] }

theorem witness_ReleasingACopy :
    (played.destCount 1 0 60 = 0 + 1 ∧ (copyOf .pending).state = .pending) ∧
    ((sounding .keyed []).destCount 1 0 60 = 0 + 1 ∧ (copyOf .sent).state = .sent) ∧
    ((sounding .keyed []).setCount 1 0 60 7).destCount 1 0 60 = 6 + 1 ∧
    ((stage.link 3).up = false ∧ (stage.link 0).role ≠ .module) ∧
    ((posted.link 1).up = true ∧ (posted.link 1).role = .module ∧ (posted.link 1).release.rising = true ∧
      (∃ p ∈ (posted.link 1).release, p.1 = 128 * 31 + 127) ∧ ∀ p ∈ (posted.link 1).release, p.1 ≠ 128 * 31 + 126) ∧
    ((played.link 1).queue = [] ++ ⟨.noteOn 0 60 100, 0, some 0, false⟩ :: [] ∧
      ∀ x ∈ (played.link 1).deferral, x.copy ≠ some 0) ∧
    (({ played.link 1 with queue := [], deferral := (played.link 1).queue } : Link).deferral =
      [] ++ ⟨.noteOn 0 60 100, 0, some 0, false⟩ :: []) := by decide +kernel

/-! ### Witnesses: power-on, the image and saves -/

theorem witness_LoadTimeoutAppliesTheDefaults :
    State.reset.part = .loading ∧
    ((State.reset.setLink 0 { upLink .unused .full with queue := List.replicate 63 ⟨.clock 0, 0, none, false⟩ }).link 0).up
      = true ∧
    ((State.reset.setLink 0 { upLink .unused .full with queue := List.replicate 63 ⟨.clock 0, 0, none, false⟩ }).link
      0).queue.length < 64 := by decide +kernel

/-- The image of the set of two songs holds the set: each table stands after those before it. -/
theorem setStore_image : Store.ofImage setStore.image = setStore := by
  have hs := witness_ImageHoldsTheWholeStore
  obtain ⟨h1, h2, h3, h4, h5, _⟩ := hs
  let z := be32 (wordSum setStore.records.flatten % 4294967296)
  let p1 := setStore.scenes.toList.flatten
  let p2 := p1 ++ setStore.songs.toList.flatten
  let p3 := p2 ++ setStore.links.toList.flatten
  let p4 := p3 ++ setStore.pedals.toList.flatten
  let p5 := p4 ++ setStore.foots.toList.flatten
  have e : setStore.image = p5 ++ (setStore.system ++ z) := by
    simp [Store.image, Store.records, p1, p2, p3, p4, p5, z]
  have l1 : p1.length = 33280 := by simp [p1, length_flatten _ _ h1]
  have l2 : p2.length = 35824 := by simp [p2, l1, length_flatten _ _ h2]
  have l3 : p3.length = 35908 := by simp [p3, l2, length_flatten _ _ h3]
  have l4 : p4.length = 35948 := by simp [p4, l3, length_flatten _ _ h4]
  have l5 : p5.length = 35976 := by simp [p5, l4, length_flatten _ _ h5]
  have i1 := imageTable_eq setStore.scenes 520 [] (setStore.songs.toList.flatten ++ (setStore.links.toList.flatten ++
    (setStore.pedals.toList.flatten ++ (setStore.foots.toList.flatten ++ (setStore.system ++ z))))) h1
  have i2 := imageTable_eq setStore.songs 53 p1 (setStore.links.toList.flatten ++
    (setStore.pedals.toList.flatten ++ (setStore.foots.toList.flatten ++ (setStore.system ++ z)))) h2
  have i3 := imageTable_eq setStore.links 7 p2
    (setStore.pedals.toList.flatten ++ (setStore.foots.toList.flatten ++ (setStore.system ++ z))) h3
  have i4 := imageTable_eq setStore.pedals 10 p3 (setStore.foots.toList.flatten ++ (setStore.system ++ z)) h4
  have i5 := imageTable_eq setStore.foots 7 p4 (setStore.system ++ z) h5
  have i6 : Record.slice (p5 ++ (setStore.system ++ z)) p5.length 10 = setStore.system := by
    simp [Record.slice, setStore, systemRecord]
  rw [l1] at i2; rw [l2] at i3; rw [l3] at i4; rw [l4] at i5; rw [l5] at i6
  simp only [Store.ofImage, e]
  simp only [p1, p2, p3, p4, p5, List.append_assoc, List.nil_append, List.length_nil] at i1 i2 i3 i4 i5 i6 ⊢
  rw [i1, i2, i3, i4, i5, i6]

theorem setStore_sum : imageSumOk setStore.image = true := by
  obtain ⟨h1, h2, h3, h4, h5, h6⟩ := witness_ImageHoldsTheWholeStore
  have hl : setStore.records.flatten.length = imageLength := by
    simp [Store.records, length_flatten _ _ h1, length_flatten _ _ h2, length_flatten _ _ h3, length_flatten _ _ h4,
      length_flatten _ _ h5, h6, imageLength]
  simp only [imageSumOk, Store.image, List.drop_left' hl, List.take_left' hl, List.length_append, hl, be32,
    List.length_cons, List.length_nil, beq_self_eq_true, Bool.and_self]

/-- While LOADING the links that are DOWN, and those without a role, are quiet. -/
theorem reset_quiet : State.reset.QuietLaw where
  quiet l := by revert l; decide +kernel
  click l := by revert l; decide +kernel
  counts l _ ch key _ _ := rfl
  loading _ l := by revert l; decide +kernel

theorem witness_ImageLoadDoneMakesThePartReady :
    State.reset.QuietLaw ∧
    (State.reset.part = .loading ∧ State.reset.now ≤ State.reset.loadBy ∧ 300000 ≤ State.reset.loadBy) ∧
    (imageSumOk setStore.image = true ∧ (Store.ofImage setStore.image).allValid = true ∧
      (Store.ofImage setStore.image).setLength ≠ 0) ∧
    ¬(imageSumOk [] = true ∧ (Store.ofImage []).allValid = true) ∧ Store.defaults.setLength = 0 :=
  ⟨reset_quiet, by decide +kernel, ⟨setStore_sum, by rw [setStore_image]; decide +kernel, by rw [setStore_image]; decide +kernel⟩,
    fun h => absurd h.1 (by decide +kernel), by decide +kernel⟩

/-- The stage with a save under way. -/
def saving : State := { stage with mgmt := { save := some ⟨[], 1500000⟩ } }

theorem witness_SavesEndWithTheirResult :
    saving.mgmt.save = some ⟨[], 1500000⟩ ∧ saving.now ≤ 1500000 ∧ 1500000 ≤ 1500000 := by decide +kernel

/-- The stage with `n` frames in link 0's output queue. -/
def queued (n : Nat) : State :=
  stage.setLink 0 { upLink .source .full with queue := List.replicate n ⟨.clock 0, 0, none, false⟩ }

theorem witness_RepliesAndNoticesAreQueuedOrCounted :
    (((queued 63).link 0).up = true ∧ ((queued 63).link 0).queue.length < 64) ∧ (stage.link 3).up = false ∧
    64 ≤ ((queued 64).link 0).queue.length ∧
    (stage.part = .ready ∧ (stage.link stage.store.reportLink).up = true) ∧ State.reset.part = .loading ∧
    Status.code .following = (11 : Byte).toNat := by decide +kernel

/-! ### Witnesses: the receive side, the transmitter and recall windows -/

/-- The stage with `n` frames in link 0's receive FIFO. -/
def received (n : Nat) : State :=
  stage.setLink 0 { upLink .source .full with fifo := List.replicate n ⟨.clock 0, 0⟩ }

theorem witness_RunsOnAnUpLinkAreJudged :
    ((stage.runTo 20).link 0).up = true ∧
    Run.valid ⟨[1, 3, 0, 60, 100, 91], false, 0⟩ = false ∧
    (Run.valid ⟨[0, 0, 0], false, 0⟩ = true ∧ Run.frame ⟨[0, 0, 0], false, 0⟩ = none) ∧
    (Run.valid (runOf (.presence .click .ready)) = true ∧
      Run.frame (runOf (.presence .click .ready)) = some (.presence .click .ready)) ∧
    (Run.valid noteRun = true ∧ Run.frame noteRun = some (.noteOn 0 60 100) ∧ Frame.kind (.noteOn 0 60 100) ≠ 12) ∧
    (((received 15).runTo 20).link 0).fifo.length < 16 ∧ 16 ≤ (((received 16).runTo 20).link 0).fifo.length ∧
    (((received 16).runTo 20).link 0).up = true := by decide +kernel

/-- The recalling live copy, with link 3 a DOWN MODULE link named by it or not. -/
def lateJoin (link : Nat) : State :=
  { stage.setLink 3 { role := .module } with
    switch := { live := { recalls := [⟨link, .program 0 0 5⟩] } } }

theorem witness_FirstValidFrameBringsALinkUp :
    ((stage.runTo 20).link 3).up = false ∧ Run.valid ⟨[0, 0, 1], false, 0⟩ = false ∧ Run.valid noteRun = true ∧
    (let a := (lateJoin 3).runTo 20
     (a.link 3).up = false ∧ (a.link 3).role = .module ∧ a.part = .ready ∧ a.recallsFor 3 ≠ []) ∧
    ((((lateJoin 4).runTo 20).link 3).role = .module ∧ ((lateJoin 4).runTo 20).recallsFor 3 = []) ∧
    ((stage.runTo 20).link 3).role ≠ .module ∧
    (stage.store.reportLink = 0 ∧ stage.part = .ready ∧ (stage.link 0).up = true ∧
      (stage.link 0).queue.length < 64) ∧
    (Run.frame ⟨[0, 0, 0], false, 0⟩ = none ∧ Run.valid ⟨[0, 0, 0], false, 0⟩ = true ∧
      Run.frame (runOf (.presence .click .ready)) = some (.presence .click .ready) ∧
      Run.frame noteRun = some (.noteOn 0 60 100) ∧ Frame.kind (.noteOn 0 60 100) ≠ 12) ∧
    (((received 15).link 0).fifo.length < 16 ∧ 16 ≤ ((received 16).link 0).fifo.length) := by decide +kernel

/-- Link 1 with a frame on the line, in a window with frames to feed or none. -/
def feeding (todo : List Frame) : State :=
  { stage.setLink 1 { upLink .module .command with
      onLine := some ⟨.program 0 0 5, 70, true⟩, window := { state := .sending, todo := todo, fed := true } } with
    store := stored .link 1 [2, 0, 0, 1, 0, 0, 0] }

/-- Link 1 SETTLING while the switch controller waits for the links of a wait set. -/
def settling (wait : List Nat) : State :=
  { recalling none with
    links := (windowed { state := .settling }).links
    switch := { (recalling none).switch with waitSet := wait } }

theorem witness_SilenceTakesALinkDown :
    (let a := played.runTo 300000
     ((played.link 0).up = true ∧ (played.link 0).silence = some 300000 ∧ (a.link 0).role = .source) ∧
     ((played.link 1).up = true ∧ (played.link 1).silence = some 300000 ∧ (a.link 1).role = .module) ∧
     a.tracker.table.any (·.src == 0) = true) ∧
    (((feeding []).runTo 300000).link 1).window.state = .sending ∧
    (((settling [1]).runTo 300000).link 1).window.state = .settling := by
  decide +kernel

/-- A MODULE link on which each source of the transmitter has something. -/
def fullLink : Link :=
  { upLink .module .command with
    realTime := [.clock 0], silenceFlag := true, release := [(pairAddr 0 60, 64)]
    queue := [⟨.noteOn 0 60 100, 0, some 0, false⟩] }

theorem witness_TransmitterTakesSourcesInOrder :
    (stage.link 1).onLine = none ∧ fullLink.onLine = none ∧ fullLink.realTime = .clock 0 :: [] ∧
    (∀ k ∈ [fullLink, { fullLink with realTime := [] }, { fullLink with realTime := [], silenceFlag := false },
        { fullLink with realTime := [], silenceFlag := false, release := [] }],
      let s := stage.setLink 1 k
      (k.realTime ≠ [] ∨ k.silenceFlag = true ∨ k.release ≠ [] ∨ k.queue ≠ []) ∧ (s.runTo (s.link 1).freeAt).link 1 = k) ∧
    ({ fullLink with realTime := [] } : Link).silenceFlag = true ∧
    ({ fullLink with realTime := [], silenceFlag := false } : Link).release = (pairAddr 0 60, 64) :: [] ∧
    ({ fullLink with realTime := [], silenceFlag := false, release := [] } : Link).queue =
      ⟨.noteOn 0 60 100, 0, some 0, false⟩ :: [] ∧
    ((stage.link 1).realTime = [] ∧ (stage.link 1).silenceFlag = false ∧ (stage.link 1).release = [] ∧
      (stage.link 1).queue = []) ∧ stage.store.reportLink ≠ (1 : Fin 12) ∧
    ((5 : Fin 12) ≠ 1 ∧ stage.store.reportLink ≠ (5 : Fin 12)) := by decide +kernel

/-- A counted link whose frame has waited for 100 µs, with bin 1 in the alert mask. -/
def waited : State :=
  { played with
    now := 100, counting := true, store := stored .system 0 (systemRecord 0 0 0 0 0) }

theorem witness_HistogramCountsWaits :
    (waited.link 1).onLine = none ∧ (waited.link 1).queue ≠ [] ∧ waited.runTo (waited.link 1).freeAt = waited ∧
    (waited.link 1).realTime = [] ∧ (waited.link 1).silenceFlag = false ∧
    (waited.link 1).release = [] ∧ (waited.link 1).queue = ⟨.noteOn 0 60 100, 0, some 0, false⟩ :: [] ∧
    waited.counting = true ∧ waited.store.histMask 1 = true ∧ waited.store.alertMask 1 = true ∧
    (waited.link 1).late = none ∧ waited.store.reportLink = (0 : Fin 12) ∧ waited.part = .ready ∧
    (waited.link 0).up = true ∧ (waited.link 0).queue.length < 64 ∧ played.counting = false ∧
    (bankGet (waited.link 1).bins 1 {}).count < 4294967295 ∧
    4294967295 ≤ (bankGet ({ waited.link 1 with bins := Vector.replicate 8 { count := 4294967295 } } : Link).bins 1 {}).count := by
  decide +kernel

theorem witness_FramesEndOnTheLine :
    (stage.link 1).onLine = none ∧
    (∃ o, (State.reset.link 1).onLine = some o ∧ o.fromRecall = false) ∧
    (∃ o, ((feeding [.program 0 0 6]).link 1).onLine = some o ∧ o.fromRecall = true ∧
      ((feeding [.program 0 0 6]).runTo o.ends).link 1 = (feeding [.program 0 0 6]).link 1 ∧
      ((feeding [.program 0 0 6]).link 1).window.state = .sending ∧
      ((feeding [.program 0 0 6]).link 1).window.todo = .program 0 0 6 :: [] ∧
      ((feeding [.program 0 0 6]).link 1).queue.length < 64) ∧
    (((feeding []).link 1).window.todo = [] ∧ (feeding []).store.settleTime (1 : Fin 12) ≠ 0 ∧
      ({ feeding [] with store := Store.defaults } : State).store.settleTime (1 : Fin 12) = 0) ∧
    (let k : Link := { (feeding [.program 0 0 6]).link 1 with
      queue := List.replicate 64 ⟨.program 0 0 5, 0, none, true⟩ }
     k.window.todo ≠ [] ∧ 64 ≤ k.queue.length) :=
  ⟨by decide +kernel, ⟨_, rfl, rfl⟩, ⟨_, rfl, rfl, by decide +kernel⟩, by decide +kernel, by decide +kernel⟩

theorem witness_WindowsFeedAndDrain :
    (((windowed { state := .sending, todo := [.program 0 0 5] }).link 1).window.state = .sending ∧
      ((windowed { state := .sending, todo := [.program 0 0 5] }).link 1).window.fed = false ∧
      ((windowed { state := .sending, todo := [.program 0 0 5] }).link 1).window.todo = .program 0 0 5 :: [] ∧
      ((windowed { state := .sending, todo := [.program 0 0 5] }).link 1).queue.length < 64) ∧
    ((stage.link 1).window.state ≠ .sending ∧ (stage.link 1).window.state ≠ .draining) ∧
    ((windowed { state := .sending, fed := true }).link 1).window.fed = true ∧
    ((windowed { state := .sending }).link 1).window.todo = [] ∧ 64 ≤ ((queued 64).link 0).queue.length ∧
    ((windowed { state := .draining }).link 1).window.state = .draining := by decide +kernel

/-- The set at the last pulse of a bar, link 1 SETTLING for 1 ms, and a request for its recalling scene armed AT_BAR:
the boundary restarts the window before its settle time has passed (R80). -/
abbrev restarted : Prop :=
  let s : State := { armed .atBar 0 0 with
    links := (windowed { state := .settling }).links
    store := setStore.set .link 1 [2, 0, 0, 1, 0, 0, 0]
    beat := { transport := .running, pulse := 239, index := 3, owed := 1 } }
  (s.link 1).window.state = .settling ∧ ((s.runTo (0 + s.store.settleTime (1 : Fin 12))).link 1).window.state = .sending

theorem witness_SettlingEndsAndReports :
    ((settling [2]).link 1).window.state = .settling ∧ (settling [2]).runTo 0 = settling [2] ∧
    0 + (settling [2]).store.settleTime (1 : Fin 12) ≤ (settling [2]).now ∧ restarted ∧ (1 : Fin 12).val ∉ (settling [2]).switch.waitSet ∧
    ((settling [1, 2]).switch.state = .recalling ∧ (1 : Fin 12).val ∈ (settling [1, 2]).switch.waitSet ∧
      ((settling [1, 2]).switch.waitSet.filter (· != (1 : Fin 12).val)) ≠ []) ∧
    ((settling [1]).switch.state = .recalling ∧ (settling [1]).switch.waitSet = [(1 : Fin 12).val] ∧
      (settling [1]).switch.recalling = some (⟨0, 1⟩, .command) ∧ (settling [1]).switch.queued = none ∧
      (settling [1]).switch.live.ident = some ⟨0, 1, 1, 0⟩ ∧ (settling [1]).store.reportLink = (0 : Fin 12) ∧
      ((settling [1]).link 0).up = true ∧ ((settling [1]).link 0).queue.length < 64) ∧
    (let waiting (g : Gate) (keyed : Bool) : State :=
      { settling [1] with
        switch := { (settling [1]).switch with queued := some (asked g) }
        tracker := { table := if keyed then [entryOf .keyed .sent] else [] } }
     (waiting .immediate true).switch.queued = some (asked .immediate) ∧
     (waiting .immediate true).switch.waitSet.filter (· != (1 : Fin 12).val) = [] ∧
     ((asked .immediate).gate = .immediate ∧ (asked .atBar).gate = .atBar ∧ (asked .atRelease).gate = .atRelease) ∧
     (waiting .atBar true).beat.transport = .stopped ∧ (moving 0).beat.transport ≠ .stopped ∧
     (∀ e ∈ (waiting .atRelease false).tracker.table, e.state ≠ .keyed) ∧
     ∃ e ∈ (waiting .atRelease true).tracker.table, e.state = .keyed) := by decide +kernel

/-- Every timer of the statement below, running. -/
def timed : State :=
  { (stage.setLink 1 { upLink .module .command with late := some 1000000 }).setSlot 3
      (some ⟨0, .system, 0, Record.defaultSystem, 0, 2000000⟩) with
    tracker := { tableFull := some 1000000 } }

theorem witness_TimersActWhenTheyExpire :
    (timed.link 1).onLine = none ∧ timed.tracker.tableFull = some 1000000 ∧ (timed.link 1).late = some 1000000 ∧
    timed.slot 3 = some ⟨0, .system, 0, Record.defaultSystem, 0, 2000000⟩ := by decide +kernel

/-! ### Witnesses: delivery, the router and the note tracker -/

theorem stage_within : stage.Within where
  links l := by constructor <;> revert l <;> decide +kernel
  table := by decide +kernel
  copies := by decide +kernel
  waits := by decide +kernel
  live := by constructor <;> decide +kernel
  engagedSize := by decide +kernel
  engaged := by decide +kernel
  overlays := by decide +kernel
  taps := by decide +kernel
  samples := by decide +kernel
  eventsSize := by decide +kernel
  events := by decide +kernel
  origins := by decide +kernel

theorem witness_DeliveredFramesLeaveTheirFifo :
    (let s := stage.setLink 0 { upLink .source .full with fifo := [⟨.noteOn 0 60 100, 7⟩] }
     s.waitingAt (0 : Fin 12) = some (.noteOn 0 0 60 100) ∧ s.part = .ready ∧ (s.link 0).role = .source) ∧
    (let s := (following .seek).setLink 0 { upLink .source .full with fifo := [⟨.beat 1 0 4 12000, 7⟩] }
     s.waitingAt (0 : Fin 12) = some (.beat 0 7 1 0 4 12000) ∧ s.store.followLink = (0 : Fin 12).val) ∧
    (let s := stage.setLink 1 { upLink .module .full with fifo := [⟨.mgmtReq 1 9 [0], 7⟩] }
     s.waitingAt (1 : Fin 12) = some (.identify 1 9 [0])) ∧
    (let s := stage.setLink 1 { upLink .module .full with fifo := [⟨.noteOn 0 60 100, 7⟩] }
     s.waitingAt (1 : Fin 12) = some (.frameNotRouted 1 (.noteOn 0 60 100)) ∧ ¬ (s.link 1).role = .source) ∧
    (∃ c, (received 1).nextGrant = some c ∧ (received 1).waitingAt (((received 1).pointer + 1 + 0) % 13) = some c) ∧
    (((received 1).link 0).fifo = ⟨.clock 0, 0⟩ :: [] ∧ (stage.link 0).fifo = [] ∧ stage.events = []) ∧
    (({ stage with events := [.control 3 31 255 1023] } : State).events = .control 3 31 255 1023 :: [] ∧
      busy.events = .hold 0 (0 : Fin 13) 0 1 :: []) ∧
    (stage.runTo 20).part = .ready ∧
    (Instr.delivers (.noteOn 0 0 60 0) = some (0, .noteOn 0 60 0) ∧ Frame.accepted (.noteOn 0 60 0) = false) ∧
    ((11 : Fin 13).val < 12 ∧ (12 : Fin 13) ≠ 11) ∧
    (Instr.delivers (.noteOff 1 31 127 0) = some (1, .noteOff 31 127 0) ∧ Frame.accepted (.noteOff 31 127 0) = true ∧
      Frame.kind (.noteOff 31 127 0) ≠ 12 ∧ Frame.kind (.noteOff 31 127 0) ≠ 13 ∧ (stage.link 1).role ≠ .source ∧
      State.reset.part = .loading) ∧
    (Instr.delivers (.beat 0 0 1 0 4 3000) = some (0, .beat 1 0 4 3000) ∧ Frame.accepted (.beat 1 0 4 3000) = true ∧
      Frame.kind (.beat 1 0 4 3000) = 10 ∧ (stored .system 0 (systemRecord 0 0 1 5 0)).followLink ≠ (0 : Fin 12)) ∧
    (Instr.delivers (.frameNotRouted 0 (.silence 255)) = some (0, .silence 255) ∧ Frame.accepted (.silence 255) = true ∧
      Frame.kind (.silence 255) ∈ [7, 8, 9, 11, 14, 15]) := by
  refine ⟨by decide +kernel, by decide +kernel, by decide +kernel, by decide +kernel, ⟨_, rfl, by decide +kernel⟩, ?_⟩
  decide +kernel

/-- A live copy with two ADD overlays around a REPLACE overlay. -/
def threeOverlays : Live :=
  { zones := [wholeZone], overlays := [⟨false, [dryZone]⟩, ⟨true, [dryZone]⟩, ⟨false, [wholeZone]⟩] }

theorem witness_CandidatesFollowTheOverlays :
    (threeOverlays.overlays[1]? = some ⟨true, [dryZone]⟩ ∧ ([dryZone].filter (·.source == 0)) ≠ [] ∧
      ∀ j ∈ [2], ¬ ∃ o, threeOverlays.overlays[j]? = some o ∧ o.replace = true ∧ o.zones.filter (·.source == 0) ≠ []) ∧
    (∀ j ∈ [0, 2], ¬ ∃ o, threeOverlays.overlays[j]? = some o ∧ o.replace = true ∧
      o.zones.filter (·.source == 0) ≠ []) ∧
    ([0, 1, 2].Nodup ∧ threeOverlays.zones.length ≤ 16 ∧ threeOverlays.overlays.length ≤ 4 ∧
      ∀ o ∈ threeOverlays.overlays, o.zones.length ≤ 4) := by
  refine ⟨⟨by decide, by decide, ?_⟩, ?_, by decide⟩ <;> intro j hj <;> simp at hj
  · subst hj; rintro ⟨o, h, r, _⟩; cases h; cases r
  · rcases hj with rfl | rfl <;> (rintro ⟨o, h, r, _⟩; cases h; cases r)

theorem stage_counted : stage.Counted := by constructor <;> decide +kernel

/-- The zone to a channel of its own. -/
def zoneTo (ch : Nat) : Zone := { wholeZone with destCh := some ch }

/-- Eleven matching zones, of which the second finds no key and the third no available link. -/
def manyZones : List Zone :=
  [wholeZone, { wholeZone with transpose := 48 }, { wholeZone with destLink := 3 }] ++ (List.range 8).map zoneTo

/-- The stage with them in the live copy. -/
def crossroads : State := { stage with switch := { live := { zones := manyZones } } }

theorem witness_NoteCopiesComeFromMatchingZones :
    stage.Counted ∧ ((crossroads.planNote 0 0 100 64).1.map (·.ch)) = [0, 0, 1, 2, 3, 4, 5, 6] ∧
    (crossroads.planNote 0 0 100 64).2 = { fanOut := 1, transposeRange := 1, unavailable := 1 } :=
  ⟨stage_counted, by decide +kernel, by decide +kernel⟩

theorem witness_NoteOnMakesAKeyedEntry :
    let s : State := { stage with tracker := { table := otherEntries } }
    let plans := (s.planNote 0 31 127 127).1
    s.Routed 0 (.noteOn 31 127 127) ∧ s.entry 0 31 127 = none ∧ s.tracker.table.length = 127 ∧ plans.length = 1 ∧
    (∀ m : Fin 12, (s.link m).queue.length ≤ 56 ∧ (s.link m).deferral.length ≤ 24) ∧
    (∀ p ∈ plans, s.destCount p.link p.ch p.key < 7) ∧
    plans.Pairwise (fun p q => destAddr p.link p.ch p.key ≠ destAddr q.link q.ch q.key) ∧
    (let p : Plan := ⟨1, 31, 127, 127, true, true⟩
     let at' (n : Nat) : State := stage.setCount 1 31 127 n
     p.link = (1 : Fin 12) ∧ 7 ≤ (at' 7).destCount 1 31 127 ∧ (at' 6).destCount 1 31 127 < 7 ∧
     (stage.link 3).up = false ∧ (stage.link 0).role ≠ .module ∧
     ((stage.link 1).up = true ∧ (stage.link 1).role = .module ∧ (stage.link 1).window.state = .closed ∧
       (stage.link 1).queue.length < 64 ∧ ¬ ((queued 64).link 0).queue.length < 64) ∧
     ((windowed { state := .sending }).link 1).deferral.length < 32) := by decide +kernel

theorem crowded_notes : (crowded .sustained).NotesLaw where
  keys := by decide +kernel
  entries := by decide +kernel
  copies := by decide +kernel
  sustained := by decide +kernel
  held := by decide +kernel
  origins := by decide +kernel
  dests := by decide +kernel
  counts a := by
    have h : (crowded .sustained).tracker.copies = [⟨0, 1, 0, 60, 100, true, true, .sent⟩] := by decide +kernel
    show Sparse.read [(4156, 1)] a = List.countP _ (crowded .sustained).tracker.copies
    rw [h]
    by_cases g : a = 4156
    · subst g; decide
    · simp [Sparse.read, destAddr, Ne.symm g]
  bound a := by
    show Sparse.read [(4156, 1)] a ≤ 7
    simp only [Sparse.read]; split_ifs <;> decide
  countsForm := by decide +kernel
  holdsForm := by decide +kernel
  live := by decide +kernel
  store := by decide +kernel

theorem witness_NoteOnReplacesOrSteals :
    (busy.Routed 0 (.noteOn 0 60 1) ∧ busy.NotesLaw ∧ busy.entry 0 0 60 = some (entryOf .keyed .pending)) ∧
    ((crowded .sustained).Routed 0 (.noteOn 0 60 1) ∧ (crowded .sustained).NotesLaw ∧
      (crowded .sustained).entry 0 0 60 = none ∧ (crowded .sustained).tracker.table.length = 128 ∧
      (crowded .sustained).tracker.table =
        [] ++ ⟨0, 1, 0, .sustained, [⟨0, 1, 0, 60, 100, true, true, .sent⟩]⟩ :: otherEntries) :=
  ⟨⟨by decide +kernel, busy_notes, by decide +kernel⟩, by decide +kernel, crowded_notes, by decide +kernel,
    by decide +kernel, rfl⟩

theorem witness_NoteOnIsRefusedByAFullTable :
    (crowded .keyed).Routed 0 (.noteOn 0 60 1) ∧ (crowded .keyed).entry 0 0 60 = none ∧
    (crowded .keyed).tracker.table.length = 128 ∧ ∀ e ∈ (crowded .keyed).tracker.table, e.state = .keyed := by
  decide +kernel

theorem witness_NoteOffEndsItsEntry :
    (stage.Routed 0 (.noteOff 0 60 127) ∧ stage.entry 0 0 60 = none) ∧
    ((sounding .keyed []).Routed 0 (.noteOff 0 60 0) ∧
      (sounding .keyed []).entry 0 0 60 = some (entryOf .keyed .sent) ∧ (sounding .keyed []).held 0 0 = false) := by
  decide +kernel

/-- The stage with key 60 down under hold, its copy without hold-follow. -/
def dryNote : State :=
  { sounding .keyed [(0, 1)] with
    tracker := { (sounding .keyed [(0, 1)]).tracker with
      table := [{ entryOf .keyed .sent with copies := [{ copyOf .sent with holdFollow := false }] }] } }

theorem witness_NoteOffUnderHoldSustains :
    ((sounding .keyed [(0, 1)]).Routed 0 (.noteOff 0 60 0) ∧
      (sounding .keyed [(0, 1)]).entry 0 0 60 = some (entryOf .keyed .sent) ∧ (sounding .keyed [(0, 1)]).held 0 0 = true ∧
      (entryOf .keyed .sent).copies.filter (·.holdFollow) ≠ []) ∧
    ((sounding .sustained [(0, 1)]).entry 0 0 60 = some (entryOf .sustained .sent) ∧
      (sounding .sustained [(0, 1)]).held 0 0 = true) ∧
    (∃ e, dryNote.entry 0 0 60 = some e ∧ dryNote.held 0 0 = true ∧ e.copies.filter (·.holdFollow) = []) :=
  ⟨by decide +kernel, by decide +kernel, _, rfl, by decide +kernel, by decide +kernel⟩

theorem witness_HoldSetsAndLiftsSustain :
    31 < 32 ∧ busy.part = .ready ∧ busy.NotesLaw ∧
    ((0 : Fin 13).val < 12 → (0 : Fin 13) = 0 ∧ (busy.link (0 : Fin 13)).role = .source) ∧
    ((12 : Fin 13).val < 12 → (5 : Fin 13) = 12 ∧ (busy.link (12 : Fin 13)).role = .source) :=
  ⟨by decide, by decide +kernel, busy_notes, by decide +kernel, fun h => absurd h (by decide)⟩

theorem witness_KeyPressureFollowsTheCopies :
    (127 < 128 ∧ stage.Routed 0 (.pressure 0 127 127) ∧ stage.entry 0 0 127 = none) ∧
    ((sounding .keyed []).Routed 0 (.pressure 0 60 0) ∧
      (sounding .keyed []).entry 0 0 60 = some (entryOf .keyed .sent)) := by decide +kernel

theorem witness_ControllersReachEachDestinationOnce :
    stage.Counted ∧ (Frame.kind (.control 31 255 1023) = 4 ∧ stage.Routed 0 (.control 31 255 1023)) ∧
    (Frame.kind (.bend 31 16383) = 5 ∧ stage.Routed 0 (.bend 31 16383)) ∧
    (Frame.kind (.pressure 31 255 127) = 3 ∧ stage.Routed 0 (.pressure 31 255 127)) ∧
    (stage.part = .ready ∧ Frame.accepted (.control 31 255 1023) = true) :=
  ⟨stage_counted, by decide +kernel⟩

/-- A queue of `n` NOTE_ON frames, and its link 1 with it as output queue or as deferral queue. -/
def notes (n : Nat) : List Waiting := List.replicate n ⟨.noteOn 0 60 100, 0, some 0, false⟩

theorem witness_ControllerFramesCoalesceOrArePlaced :
    coalesce (.bend 0 1) [⟨.bend 0 0, 5, none, false⟩] = some [⟨.bend 0 1, 5, none, false⟩] ∧
    coalesce (.bend 0 1) (notes 64) = none ∧ (stage.link 3).up = false ∧ (stage.link 0).role ≠ .module ∧
    ((stage.link 1).up = true ∧ (stage.link 1).role = .module) ∧
    ((notes 63).length < 64 ∧ 64 ≤ (notes 64).length) ∧ ((notes 31).length < 32 ∧ 32 ≤ (notes 32).length) := by
  decide +kernel

/-! ### Witnesses: the follow unit and the beat engine -/

/-- The same with the transport RUNNING at pulse 120 of a beat with another after it, when the frame that arrived
at 500000 can be taken. -/
def followingMoving (st : FollowState) : State :=
  { following st with now := 500020, beat := { transport := .running, pulse := 120 } }

/-- The same in the last beat of a bar: a snap begins a bar. -/
def followingLast (st : FollowState) (good : Nat) : State :=
  { following st with
    now := 500020
    beat := { transport := .running, pulse := 120, index := 3 }
    follow := { (following st).follow with good := good } }

/-- The state in which a frame that arrived at an instant is taken. -/
def taken (arr : Nat) (s : State) : State := s.runTo (arr + 20)

theorem witness_BeatFramesSeekALock :
    ((taken 0 (following .off)).Routed 0 (.beat 1 0 4 12000) ∧
      (taken 0 (following .off)).store.followLink = (0 : Fin 12) ∧ (taken 0 (following .off)).follow.state = .off) ∧
    ((taken 0 (following .holdover)).Routed 0 (.beat 1 0 4 12000) ∧
      (taken 0 (following .holdover)).beat.startPending = false ∧
      (taken 0 (following .holdover)).follow.state = .holdover) ∧
    (({ following .seek with follow := { state := .seek } } : State).follow.lastArrival = none) ∧
    ((taken 199999 (following .seek)).Routed 0 (.beat 1 0 4 12000) ∧
      (taken 199999 (following .seek)).follow.state = .seek ∧
      (taken 199999 (following .seek)).follow.lastArrival = some 0 ∧ 199999 < 200000 ∧ 2000000 < 2000001 ∧
      ¬ (taken 200000 (following .seek)).beat.snapsForward) ∧
    (let a := taken 500000 (followingMoving .seek)
     a.Routed 0 (.beat 1 0 4 12000) ∧ a.follow.lastArrival = some 0 ∧ a.beat.snapsForward ∧
      a.beat.index + 1 < a.beat.current) ∧
    (let a := taken 500000 (followingLast .seek 0)
     a.beat.snapsForward ∧ a.follow.lastArrival = some 0 ∧ a.Routed 0 (.beat 1 0 4 12000)) ∧
    (let s : State := { following .locked with beat := { startPending := true } }
     s.beat.startPending = true ∧ s.beat.transport = .stopped ∧ (taken 0 s).follow.state ≠ .off ∧
      (taken 0 s).Routed 0 (.beat 1 0 4 12000)) := by decide +kernel

/-- The interval 444444 µs at T = 12000: its estimate, 13500, is just within T / 8 of T. -/
theorem witness_BeatFramesMoveTheTempo :
    let inTol (T i : Nat) : Bool := decide (200000 ≤ i ∧ i ≤ 2000000 ∧ roundDiv 6000000000 i ≤ T + T / 8 ∧
      T ≤ roundDiv 6000000000 i + T / 8)
    (let a := taken 444444 (following .locking)
     a.Routed 0 (.beat 1 0 4 12000) ∧ a.store.followLink = (0 : Fin 12) ∧ a.beat.startPending = false ∧
      a.beat.ramp = none ∧ a.follow.lastArrival = some 0 ∧ a.follow.state = .locking ∧ inTol 12000 444444 = true ∧
      ¬ a.beat.snapsForward ∧ a.store.reportLink = (0 : Fin 12) ∧ (a.link 0).up = true ∧ (a.link 0).queue.length < 64) ∧
    (let a (good : Nat) : State := taken 500000 (followingLast .locking good)
     (a 2).Routed 0 (.beat 1 0 4 12000) ∧ (a 2).beat.snapsForward ∧ (a 2).follow.good < 3 ∧ 3 ≤ (a 3).follow.good ∧
      (a 3).beat.ramp = none ∧ inTol 12000 500000 = true) ∧
    (let a := taken 500000 (followingMoving .locked)
     a.Routed 0 (.beat 1 0 4 12000) ∧ a.follow.state = .locked ∧ a.beat.pulse < 240 ∧ a.follow.lastArrival = some 0) ∧
    inTol 12000 444400 = false ∧ (taken 444400 (following .locked)).follow.outlierRun < 2 ∧
    2 ≤ (taken 444400 { following .locked with follow := { (following .locked).follow with outlierRun := 2 } }).follow.outlierRun := by
  decide +kernel

theorem witness_BeatSilenceEndsTheLock :
    ((following .locking).follow.lastArrival = some 0 ∧ (following .locking).follow.limit = some 1000000 ∧
      ((following .locking).runTo 1000000).follow.state = .locking) ∧
    (((following .locked).runTo 1000000).follow.state = .locked ∧
      ((following .locked).runTo 1000000).beat.startPending = false) ∧
    (let a := ({ following .locked with beat := { startPending := true } } : State).runTo 1000000
     a.beat.startPending = true ∧ a.beat.transport = .stopped) := by
  decide +kernel

/-- An accumulator one addition short of a pulse, and one that owes an advance. -/
def almost (pulse : Nat) : Beat := { transport := .running, pulse := pulse, fraction := 268306607 }
def owing (pulse : Nat) : Beat := { transport := .running, pulse := pulse, owed := 1 }

/-- A ramp under way, with an advance owed or one addition short of it. -/
def ramping (owed fraction : Nat) : State :=
  { rampState with beat := { rampState.beat with owed := owed, fraction := fraction } }

theorem ramping_tempo (owed fraction : Nat) : (ramping owed fraction).TempoLaw where
  tempo := ramp_tempo.tempo
  applied := ramp_tempo.applied
  correction := ramp_tempo.correction
  ramp := ramp_tempo.ramp
  loading := ramp_tempo.loading
  store := ramp_tempo.store

theorem witness_PulsesFollowTheAccumulator_runTo :
    (∀ owed fraction, (ramping owed fraction).TempoLaw) ∧
    ((ramping 1 0).beat.transport ≠ .stopped ∧ 0 < (ramping 1 0).beat.owed ∧ (ramping 1 0).now < 1 ∧
      ∃ v, exec .beatBoundary (ramping 1 0) = .next v) ∧
    ((ramping 0 268404855).beat.fraction < 268435456 ∧ (ramping 0 268404855).beat.owed = 0 ∧
      (ramping 0 268404855).beat.advancesIn 1 ∧ (ramping 0 268404855).now + 1 < 2) ∧
    (stage.beat.transport = .stopped ∧ ¬ (ramping 0 268404855).now + 1 < 1) :=
  ⟨ramping_tempo, ⟨by decide +kernel, by decide +kernel, by decide +kernel, _, rfl⟩, by decide +kernel,
    by decide +kernel⟩

theorem witness_PulsesFollowTheAccumulator :
    ((almost 238).transport ≠ .stopped ∧ (almost 238).pulse < 239 ∧ (almost 238).advancesIn 1) ∧
    ((owing 238).transport ≠ .stopped ∧ (owing 238).advancesIn 0) := by decide +kernel

/-- The set playing its first song, at the end of the count-in bar before the cue's bar, or in a later bar. -/
def lastBeat (bar : Int) (transport : Transport) : State :=
  { show2 with beat := { transport := transport, pulse := 239, index := 3, bar := bar, owed := 1 } }

/-- The set playing song `song` at the end of a bar, with an AT_BAR request for song 0 armed. -/
def barArmed (song : Nat) : State :=
  { lastBeat 1 .running with switch := { (armed .atBar 0 0).switch with position := ⟨song, 0⟩ } }

theorem witness_BoundariesMoveTheBeat_armed :
    (∀ song ∈ [0, 1], (barArmed song).beat.transport ≠ .stopped ∧ (barArmed song).beat.pulse = 239 ∧
      (barArmed song).beat.advancesIn 0 ∧ (barArmed song).beat.current ≤ (barArmed song).beat.index + 1 ∧
      (barArmed song).switch.state = .armed) ∧
    (barArmed 1).barGate.beat.transport = .stopped ∧ (barArmed 0).barGate.beat.transport ≠ .stopped := by
  decide +kernel

theorem witness_BoundariesMoveTheBeat :
    ((almost 239).transport ≠ .stopped ∧ (almost 239).pulse = 239 ∧ (almost 239).advancesIn 1 ∧
      (almost 239).index + 1 < (almost 239).current) ∧
    ((lastBeat (-1) .countIn).beat.transport ≠ .stopped ∧ (lastBeat (-1) .countIn).beat.pulse = 239 ∧
      (lastBeat (-1) .countIn).beat.advancesIn 0 ∧
      (lastBeat (-1) .countIn).beat.current ≤ (lastBeat (-1) .countIn).beat.index + 1 ∧
      (lastBeat (-1) .countIn).switch.state ≠ .armed ∧ (lastBeat (-1) .countIn).switch.state = .idle ∧
      (lastBeat (-1) .countIn).songCues.find? (fun c => (c.1 : Int) == 1 + 1) = some (2, 1)) ∧
    (∀ c ∈ (lastBeat 1 .running).songCues, (c.1 : Int) ≠ 2 + 1) ∧
    ({ lastBeat (-2) .countIn with beat := { (lastBeat (-2) .countIn).beat with segueMark := true } } : State).beat.segueMark
      = true := by decide +kernel

theorem witness_StartAndStopMoveTheTransport :
    (moving 0).beat.transport ≠ .stopped ∧
    ({ stage with beat := { startPending := true } } : State).beat.startPending = true ∧
    (stage.beat.transport = .stopped ∧ stage.beat.startPending = false ∧ stage.follow.state ≠ .locked ∧
      stage.beat.countIn = 0 ∧ ∀ c ∈ stage.songCues, c.1 ≠ 2) ∧
    ((following .locked).beat.transport = .stopped ∧ (following .locked).follow.state = .locked) ∧
    (({ stage with beat := { countIn := 2 } } : State).beat.countIn ≠ 0) ∧
    (show2.beat.countIn = 0 ∧ show2.songCues.find? (fun c => c.1 == 2) = some (2, 1) ∧ show2.switch.state = .idle) ∧
    (rampState.beat.transport ≠ .stopped ∧ rampState.switch.state ≠ .armed) ∧
    (({ armed .atBar 0 0 with beat := (moving 0).beat } : State).switch.state = .armed ∧
      ({ armed .atBar 0 0 with beat := (moving 0).beat } : State).switch.armed = some (asked .atBar) ∧
      (asked .atBar).gate = .atBar ∧ (asked .atRelease).gate ≠ .atBar) ∧
    stage.Serves 0 .command ∧ stage.Serves 1 .command := by decide +kernel

/-- The stage some time after a tap. -/
def tapped (i : Nat) (taps : List Nat) : State := { stage with now := i, beat := { lastTap := some 0, taps := taps } }

theorem witness_TapsAndSetTempoWriteTheTempo :
    (following .seek).follow.state ≠ .off ∧ (stage.follow.state = .off ∧ stage.beat.lastTap = none) ∧
    ((tapped 199999 []).beat.lastTap = some 0 ∧ (tapped 199999 []).now - 0 < 200000 ∧
      2000000 < (tapped 2000001 []).now - 0) ∧
    (200000 ≤ (tapped 200000 []).now - 0 ∧ (tapped 200000 []).now - 0 ≤ 2000000 ∧
      (tapped 200000 []).beat.taps.length + 1 < 2) ∧
    ((tapped 2000000 [500000, 1, 2, 3]).now - 0 ≤ 2000000 ∧ ¬ (tapped 2000000 [500000]).beat.snapsForward) ∧
    (({ tapped 500000 [500000] with beat := { (tapped 500000 [500000]).beat with
        transport := .running, pulse := 120 } } : State).beat.snapsForward ∧
      (tapped 500000 [500000]).beat.index + 1 < (tapped 500000 [500000]).beat.current) ∧
    stage.Serves 1 .command ∧ (following .seek).Serves 1 .command := by decide +kernel

/-! ### Witnesses: pedals and footswitches -/

theorem pedalStage_within (x : Pedal) (h : x.history.length ≤ 8) (f : x.phase < 8) : (pedalStage x).Within where
  links := stage_within.links
  table := stage_within.table
  copies := stage_within.copies
  waits := stage_within.waits
  live := stage_within.live
  engagedSize := stage_within.engagedSize
  engaged := stage_within.engaged
  overlays := stage_within.overlays
  taps := stage_within.taps
  samples p := by
    by_cases e : 0 = p.val
    · simp [State.pedal, pedalStage, ← e, Config.samplesHeld, h, f]
    · simp [State.pedal, pedalStage, e]; exact stage_within.samples p
  eventsSize := stage_within.eventsSize
  events := stage_within.events
  origins := stage_within.origins

theorem witness_PedalEvaluationsMakeEvents :
    let r := (pedalStage {}).store.get .pedal 0
    let joins (new : List Nat) : List Nat := (([] : List Nat) ++ new).drop ((([] : List Nat) ++ new).length - 8)
    (∀ n, n < 8 → ((pedalStage { phase := n, highRun := n, lowRun := n, absent := n == 0 }).runTo 0).Within) ∧
    ((stage.runTo 0).part = .ready ∧ Record.flag (stage.store.get .pedal 0) 0 0 = false) ∧
    (Record.flag r 0 0 = true ∧ 0 + (List.replicate 7 0).length < 8 ∧ 8 ≤ 1 + (List.replicate 7 0).length ∧
      (joins (List.replicate 7 0)).length < 8) ∧
    ((joins (eight 1016)).length = 8 ∧ 1016 ≤ (joins (eight 1016)).foldl (· + ·) 0 / 8 ∧
      ((pedalStage { absent := true }).pedal 0).absent = true ∧ ((pedalStage { highRun := 6 }).pedal 0).highRun < 7 ∧
      ((pedalStage { highRun := 7 }).pedal 0).absent = false ∧ 7 ≤ ((pedalStage { highRun := 7 }).pedal 0).highRun) ∧
    ((joins (eight 1015)).foldl (· + ·) 0 / 8 < 1016 ∧ u16At r 3 = 80 ∧ u16At r 5 = 940 ∧ 80 < 940) ∧
    (((pedalStage {}).pedal 0).absent = false ∧ ((pedalStage {}).pedal 0).last = none) ∧
    (((pedalStage { last := some 1023 }).pedal 0).last = some 1023 ∧ u8At r 7 = 8) ∧
    (((pedalStage { absent := true, lowRun := 6 }).pedal 0).lowRun < 7 ∧
      7 ≤ ((pedalStage { absent := true, lowRun := 7 }).pedal 0).lowRun) :=
  ⟨fun n h => pedalStage_within _ (Nat.zero_le 8) h, by decide +kernel⟩

/-- The set with footswitch 0 on a function, with its arguments and a debounce of 2; its state `x`. -/
def footStage (fn a b : Nat) (x : Foot) : State :=
  { show2 with
    store := setStore.set .footswitch 0 [byte fn, 0, 2, byte a, byte b, 0, 0]
    foots := bankSet show2.foots 0 x }

theorem footStage_within (fn a b : Nat) (x : Foot) : (footStage fn a b x).Within where
  links := stage_within.links
  table := stage_within.table
  copies := stage_within.copies
  waits := stage_within.waits
  live := stage_within.live
  engagedSize := stage_within.engagedSize
  engaged := stage_within.engaged
  overlays := stage_within.overlays
  taps := stage_within.taps
  samples := stage_within.samples
  eventsSize := stage_within.eventsSize
  events := stage_within.events
  origins := stage_within.origins

theorem footStage_runTo (fn a b : Nat) (x : Foot) : (footStage fn a b x).runTo 0 = footStage fn a b x := rfl

/-- A footswitch up or down, its last sample taken at the level of that state (CLOSED_PRESSED, so low is down). -/
def up0 : Foot := { level := some true }
def down0 : Foot := { level := some false, pressed := true }

theorem witness_FootswitchesHandOnTheirFunction :
    let fn (n : Nat) : FootFunction := Record.footFunction ((footStage n 0 0 {}).store.get .footswitch 0)
    (∀ n x, ((footStage n 0 0 x).runTo 0).Within ∧ ((footStage n 0 0 x).runTo 0).part = .ready) ∧
    (((footStage 0 0 0 {}).foot 0).level = none ∧ ((footStage 0 0 0 down0).foot 0).pressed = true ∧
      ((footStage 0 0 0 up0).foot 0).pressed = false ∧ ((footStage 0 0 0 up0).foot 0).level ≠ none ∧
      ((footStage 0 0 0 down0).foot 0).level ≠ none) ∧
    (fn 0 = .none ∧ fn 1 = .nextScene ∧ fn 2 = .prevScene ∧ fn 3 = .nextSong ∧ fn 4 = .prevSong ∧ fn 5 = .tap ∧
      fn 6 = .startStop ∧ fn 7 = .overlay ∧ fn 8 = .overlayLatch ∧ fn 9 = .hold ∧ fn 10 = .panic) ∧
    (∃ t, (footStage 1 0 0 up0).resolve .nextScene = .ok t) ∧
    (∃ e, (footStage 2 0 0 up0).resolve .prevScene = .error e) ∧
    (((footStage 0 0 0 down0).foot 0).pressed = (false == false) ∧
      ((footStage 0 0 0 up0).foot 0).pressed ≠ (false == false) ∧ ((footStage 0 0 0 up0).foot 0).run + 1 < 2 ∧
      2 ≤ ((footStage 0 0 0 { up0 with run := 1 }).foot 0).run + 1) :=
  ⟨fun n x => ⟨by rw [footStage_runTo]; exact footStage_within n 0 0 x, rfl⟩, by decide +kernel, by decide +kernel, ⟨_, rfl⟩, ⟨_, rfl⟩,
    by decide +kernel⟩

/-! ### Witnesses: requests -/

/-- The stage with the rights of link 0 lowered. -/
def ranked (r : Rights) : State := stage.setLink 0 (upLink .source r)

theorem witness_RequestsAreJudgedFirst :
    (∃ a, Instr.asked (.editOpen 0 7 [0, 0]) = some a ∧ ((ranked .none).link a.link).rights = .none ∧
      ((ranked .read).link a.link).rights ≠ .none ∧
      Rights.code ((ranked .read).link a.link).rights < Rights.code a.need ∧ (ranked .read).mgmt.fault = none ∧
      ((ranked .read).link a.link).up = true ∧ ((ranked .read).link a.link).queue.length < 63 ∧
      Rights.code a.need ≤ Rights.code ((ranked .full).link a.link).rights ∧ a.form = true ∧ a.loading = false ∧
      State.reset.part = .loading ∧ Rights.code a.need ≤ Rights.code (State.reset.link a.link).rights ∧
      (State.reset.link a.link).rights ≠ .none) ∧
    (∃ a, Instr.asked (.editOpen 0 7 []) = some a ∧ a.form = false) ∧
    (∃ a, Instr.asked (.select 0 7 [0, 0, 0, 0]) = some a ∧ a.code = 8 ∧ a.args[0]? = some 1) ∧
    (∃ a, Instr.asked (.identify 0 7 [2]) = some a ∧ a.code = 1 ∧ a.args[0]? = some 2) ∧
    (∃ a, Instr.asked (.editPut 0 7 [3, 0, 0, 1]) = some a ∧ a.code = 5 ∧ a.args[0]? = some 3 ∧
      (∃ x, (editing .link []).slot 0 = some x) ∧ stage.slot (3 : Byte).toNat = none ∧ stage.slot (4 : Byte).toNat = none) ∧
    (({ ranked .read with mgmt := { fault := some ⟨0, 4, 0, 0⟩ } } : State).mgmt.fault = some ⟨0, 4, 0, 0⟩) :=
  ⟨⟨_, rfl, by decide +kernel⟩, ⟨_, rfl, by decide +kernel⟩, ⟨_, rfl, by decide +kernel⟩, ⟨_, rfl, by decide +kernel⟩,
    ⟨_, rfl, by decide +kernel, by decide +kernel, ⟨_, rfl⟩, by decide +kernel⟩, by decide +kernel⟩

theorem witness_ReadingRequestsAnswerFromTheState :
    Rights.code .read ≤ Rights.code ((ranked .read).link (0 : Fin 12)).rights ∧ (ranked .read).part = .ready ∧
    (Table.code .scene = (0 : Byte).toNat ∧ (63 : Byte).toNat < Table.size .scene ∧ 1 ≤ (16 : Byte).toNat ∧
      (16 : Byte).toNat ≤ 16 ∧ 256 * (1 : Byte).toNat + (248 : Byte).toNat + (16 : Byte).toNat ≤ Table.length .scene) ∧
    (16 < (17 : Byte).toNat ∧ 5 < (6 : Byte).toNat ∧ Table.size .scene ≤ (64 : Byte).toNat ∧
      Table.length .scene < 256 * (1 : Byte).toNat + (249 : Byte).toNat + (16 : Byte).toNat) ∧
    (∃ b, (ranked .read).sectionBytes 4 11 = some b ∧ 20 * 2 < b.length ∧ b.length ≤ 20 * 3) ∧
    (7 < (8 : Byte).toNat ∧ ((4 : Byte).toNat = 4 ∧ 12 ≤ (12 : Byte).toNat) ∧
      ((0 : Byte).toNat ≠ 4 ∧ (0 : Byte).toNat ≠ 5) ∧ (1 : Byte).toNat ≠ 0) :=
  ⟨by decide +kernel, by decide +kernel, by decide, by decide, ⟨_, rfl, by decide +kernel, by decide +kernel⟩, by decide⟩

/-- The stage with every edit slot open for link 2. -/
def allOpen : State :=
  { stage with mgmt := { slots := Vector.replicate 4 (some ⟨2, .system, 0, Record.defaultSystem, 0, 2000000⟩) } }

theorem witness_EditSlotsHoldARecord :
    stage.Serves 0 .full ∧
    (Table.code .system = (5 : Byte).toNat ∧ (0 : Byte).toNat < Table.size .system ∧ 0 < 4 ∧ stage.slot 0 = none ∧
      ∀ m, m < 0 → stage.slot m ≠ none) ∧
    (allOpen.Serves 0 .full ∧ ∀ m, m < 4 → allOpen.slot m ≠ none) ∧
    (5 < (6 : Byte).toNat ∧ Table.code .link = (2 : Byte).toNat ∧ Table.size .link ≤ (12 : Byte).toNat) ∧
    ((editing .system Record.defaultSystem).Serves 0 .full ∧ 1 ≤ [(1 : Byte)].length ∧ [(1 : Byte)].length ≤ 16 ∧
      (3 : Byte).toNat < 4 ∧
      (∃ x, (editing .system Record.defaultSystem).slot 0 = some x ∧ x.owner = (0 : Fin 12) ∧
        256 * (0 : Byte).toNat + (9 : Byte).toNat + [(1 : Byte)].length ≤ Table.length x.table ∧
        Table.length x.table < 256 * (0 : Byte).toNat + (10 : Byte).toNat + [(1 : Byte)].length)) ∧
    (∀ x, allOpen.slot (3 : Byte).toNat = some x → x.owner ≠ (0 : Fin 12)) ∧
    (∀ x, stage.slot (3 : Byte).toNat = some x → x.owner ≠ (0 : Fin 12)) ∧ 4 ≤ (4 : Byte).toNat :=
  ⟨by decide +kernel, by decide +kernel, by decide +kernel, by decide, ⟨by decide +kernel, by decide, by decide,
    by decide, _, rfl, by decide +kernel⟩, fun x h => by cases h; decide, nofun, by decide⟩

theorem editing_within (t : Table) (image : Record) : (editing t image).Within where
  links := stage_within.links
  table := stage_within.table
  copies := stage_within.copies
  waits := stage_within.waits
  live := stage_within.live
  engagedSize := stage_within.engagedSize
  engaged := stage_within.engaged
  overlays := stage_within.overlays
  taps := stage_within.taps
  samples := stage_within.samples
  eventsSize := stage_within.eventsSize
  events := stage_within.events
  origins := stage_within.origins

/-- A slot of link 0 with an image and the generation it was opened at. -/
def slotOf (t : Table) (image : Record) : Slot := ⟨0, t, 0, image, 0, 2000000⟩

theorem witness_EditCommitsReplaceTheRecord_footswitch :
    (editing .footswitch Record.defaultFoot).Within ∧ (editing .footswitch Record.defaultFoot).Serves 0 .full :=
  ⟨editing_within _ _, by decide +kernel⟩

theorem witness_EditCommitsReplaceTheRecord :
    (∀ p ∈ [(Table.scene, Record.defaultScene), (.song, songRecord 1 0 []), (.pedal, Record.defaultPedal),
        (.link, [1, 3, 0, 0, 0, 0, 0]), (.footswitch, Record.defaultFoot), (.system, systemRecord 0 0 1 0 0)],
      (editing p.1 p.2).Serves 0 .full ∧ (editing p.1 p.2).slot (0 : Byte).toNat = some (slotOf p.1 p.2) ∧
      (slotOf p.1 p.2).owner = (0 : Fin 12) ∧ p.2.length = Table.length p.1 ∧
      Record.gen p.1 ((editing p.1 p.2).store.get p.1 0) = (slotOf p.1 p.2).gen ∧
      Record.gen p.1 ((editing p.1 p.2).store.get p.1 0) = 256 * (0 : Byte).toNat + (0 : Byte).toNat ∧
      ((editing p.1 p.2).store.set p.1 0 (Record.withGen p.1 p.2 1)).check p.1 0 = none ∧
      (editing p.1 p.2).mgmt.save = none) ∧
    Record.gen .scene ((editing .scene Record.defaultScene).store.get .scene 0) ≠
      256 * (0 : Byte).toNat + (1 : Byte).toNat ∧
    ((editing .scene (sceneRecord 19 [17])).store.set .scene 0 (Record.withGen .scene (sceneRecord 19 [17]) 1)).check
      .scene 0 = some 19 ∧
    (({ editing .scene Record.defaultScene with mgmt := { (editing .scene Record.defaultScene).mgmt with
        save := some ⟨[], 1500000⟩ } } : State).mgmt.save ≠ none) ∧
    ((stored .system 0 (systemRecord 0 0 1 0 0)).followEnable = true ∧
      (editing .system (systemRecord 0 0 1 0 0)).follow.state = .off ∧
      (stored .system 0 (systemRecord 0 0 1 1 0)).followLink ≠ (editing .system []).store.followLink ∧
      (following .locked).follow.state ≠ .off ∧ (stored .system 0 (systemRecord 0 0 0 0 0)).followEnable = false ∧
      Store.defaults.setLength = 0 ∧ Store.defaults.setLength ≠ setStore.setLength ∧
      0 < (stored .system 0 (systemRecord 1 0 0 0 0)).setLength ∧
      (stored .system 0 (systemRecord 1 0 0 0 0)).setLength ≠ setStore.setLength ∧
      (editing .system []).beat.startPending = false) ∧
    (let s : State := { following .locked with beat := { startPending := true } }
     s.follow.state = .locked ∧ s.beat.startPending = true ∧ s.beat.transport = .stopped ∧
      (stored .system 0 (systemRecord 0 0 1 1 0)).followLink ≠ s.store.followLink ∧
      (stored .system 0 (systemRecord 0 0 1 0 0)).followLink = s.store.followLink) ∧
    (Role.ofCode 1 = (stage.link 0).role ∧ (stage.link 0).window.state ≠ .settling ∧ 0 < 0 + 1000 * 1 ∧
      0 + 1000 * 0 ≤ 0 ∧ ((windowed { state := .settling }).link 1).window.state = .settling) ∧
    ((stage.link 0).up = true ∧ Role.ofCode 2 ≠ (stage.link 0).role ∧ Role.ofCode 0 ≠ (stage.link 1).role ∧
      Role.ofCode 2 = .module ∧ (stage.link 0).role = .source ∧ (stage.link 1).role = .module ∧
      (stage.link 2).role = .click ∧ (stage.link 3).role = .unused ∧ (stage.link 0).window.state = .closed ∧
      (∀ w ∈ ((queued 64).link 0).queue, w.copy = none) ∧ stage.switch.state ≠ .armed ∧ (lateJoin 3).recallsFor 3 ≠ [] ∧
      (lateJoin 4).recallsFor 3 = []) := by decide +kernel

/-! ### Witnesses: switching -/

/-- The set with the position at a song and a scene. -/
def placed (song scene : Nat) : State := { show2 with switch := { show2.switch with position := ⟨song, scene⟩ } }

theorem witness_RequestsResolveAgainstTheirBase :
    ((placed 0 0).switch.state = .idle ∧ stage.store.setLength = 0) ∧
    ((armed .atBar 0 0).switch.state = .armed ∧ (armed .atBar 0 0).switch.armed = some (asked .atBar)) ∧
    ((recalling (some (asked .atBar))).switch.state = .recalling ∧
      (recalling (some (asked .atBar))).switch.queued = some (asked .atBar)) ∧
    ((recalling none).switch.queued = none ∧ (recalling none).switch.recalling = some (⟨0, 1⟩, .command)) ∧
    (0 < setStore.setLength ∧ setStore.setLength ≤ (placed 2 0).switch.position.song ∧
      (placed 1 0).switch.position.song < setStore.setLength) ∧
    (0 + 1 < setStore.sceneCount 0 ∧ setStore.sceneCount 0 ≤ 1 + 1 ∧ 0 + 1 < setStore.setLength ∧
      1 + 1 = setStore.setLength ∧ setStore.sceneCount 1 ≤ 0 + 1) ∧
    (setStore.sceneCount 0 ≤ (placed 0 2).switch.position.scene ∧ 1 < setStore.sceneCount 0 ∧ 0 < setStore.sceneCount 1) := by
  decide +kernel

theorem witness_RequestsWaitForTheirGates :
    ((recalling none).switch.state = .recalling ∧ show2.switch.state ≠ .recalling) ∧
    ((asked .immediate).gate = .immediate ∧ show2.beat.transport = .stopped ∧ (∀ e ∈ show2.tracker.table, e.state ≠ .keyed)) ∧
    ((asked .atBar).gate ≠ .immediate ∧ (asked .atBar).gate ≠ .atRelease ∧
      ({ show2 with beat := (moving 0).beat } : State).beat.transport ≠ .stopped) ∧
    ((asked .atRelease).gate = .atRelease ∧ ∃ e ∈ ({ show2 with tracker := played.tracker } : State).tracker.table,
      e.state = .keyed) ∧
    (show2.switch.base.song = 0 ∧ show2.switch.base.song ≠ 1 ∧ show2.switch.state ≠ .armed) ∧
    ((armed .atBar 0 0).switch.state = .armed ∧ (armed .atBar 0 0).switch.armed = some (asked .atBar)) ∧
    ((armed .atRelease 8 6).switch.armed = some { asked .atRelease with fallback := 8, count := 6 } ∧ 7 < 8 ∧
      (armed .atRelease 8 7).switch.armed = some { asked .atRelease with fallback := 8, count := 7 } ∧ 8 ≤ 8) := by
  decide +kernel

/-- A set with a tempo in its scene 0: INC and a ramp are the commit's. -/
def tempoSet (tempo ramp : Nat) : State :=
  { show2 with store := setStore.set .scene 0 (sceneRecord 16 (be16 tempo ++ [byte ramp])) }

theorem witness_CommitsTakeTheScene :
    ((show2.link (1 : Fin 12)).up = true ∧ (show2.link (1 : Fin 12)).role = .module ∧
      ∃ e ∈ Record.recalls (show2.store.get .scene 1), e.link = (1 : Fin 12)) ∧
    ((∀ l : Fin 12, ¬ ((show2.link l).up = true ∧ (show2.link l).role = .module ∧
        ∃ e ∈ Record.recalls (show2.store.get .scene 0), e.link = l)) ∧
      (∀ l : Fin 12, (show2.link l).window.state = .closed) ∧ show2.store.reportLink = (0 : Fin 12) ∧
      show2.part = .ready ∧ (show2.link 0).up = true ∧ (show2.link 0).queue.length < 64) ∧
    (1 ≠ show2.switch.position.song ∧ 0 ≠ (placed 1 0).switch.position.song ∧
      Record.segue (show2.store.get .song 0) = false ∧ Record.segue (show2.store.get .song 1) = true) ∧
    (u16At (show2.store.get .scene 0) 16 = 0 ∧ (following .seek).follow.state ≠ .off) ∧
    (u16At ((tempoSet 3000 0).store.get .scene 0) 16 ≠ 0 ∧ (tempoSet 3000 0).follow.state = .off ∧
      u8At ((tempoSet 3000 0).store.get .scene 0) 18 = 0 ∧ (tempoSet 3000 0).beat.transport = .stopped) ∧
    (u8At ((tempoSet 30000 16).store.get .scene 0) 18 ≠ 0 ∧ (moving 0).beat.transport ≠ .stopped) ∧
    (((windowed { state := .sending, fed := true }).link 1).window.state = .sending ∧
      ((windowed { state := .sending, fed := true }).link 1).window.fed = true ∧
      ((windowed { state := .sending }).link 1).window.fed = false ∧ (windowed {}).store.settleTime 1 = 0 ∧
      (feeding []).store.settleTime 1 ≠ 0 ∧ ((windowed { state := .draining }).link 1).window.state ≠ .sending) ∧
    (rampState.beat.transport ≠ .stopped ∧ rampState.beat.ramp = some ⟨3000, 30000, 4, 3⟩) := by decide +kernel

/-! ### Witnesses: commands -/

theorem witness_CommandsAreCarriedOutAndAnswered :
    show2.Serves 1 .command ∧ show2.Serves 0 .full ∧
    ((2 : Byte).toNat ≤ 2 ∧ (8 : Byte).toNat ≤ 8 ∧ 2 < (3 : Byte).toNat ∧ 8 < (9 : Byte).toNat) ∧
    (∃ t, ((show2.grant (1 : Fin 12) (.mgmtReq 8 9 [2, 0, 0])).runTo 0).resolve .nextScene = .ok t) ∧
    (∃ e, ((show2.grant (1 : Fin 12) (.mgmtReq 8 9 [3, 0, 0])).runTo 0).resolve .prevScene = .error e) ∧
    ((47 : Byte).toNat ≤ 47 ∧ (7 : Byte).toNat ≤ 7 ∧ 47 < (48 : Byte).toNat ∧ 7 < (8 : Byte).toNat) ∧
    ((armed .atBar 0 0).switch.state = .armed ∧ (armed .atBar 0 0).Serves 1 .command) ∧
    ((recalling (some (asked .atBar))).switch.state = .recalling ∧
      (recalling (some (asked .atBar))).switch.queued ≠ none ∧ (recalling none).switch.queued = none) ∧
    (show2.switch.state = .idle ∧ busy.engaged.Nodup ∧ (0 : Byte).toNat < busy.switch.live.overlays.length ∧
      busy.switch.live.overlays.length ≤ (1 : Byte).toNat ∧ (3 : Byte).toNat < 4 ∧ 4 ≤ (4 : Byte).toNat) ∧
    ((1 : Byte).toNat ≤ 1 ∧ 1 < (2 : Byte).toNat ∧ show2.mgmt.save = none ∧ saving.mgmt.save ≠ none ∧
      saving.Serves 0 .full) :=
  ⟨by decide +kernel, by decide +kernel, by decide, ⟨_, rfl⟩, ⟨_, rfl⟩, by decide, by decide +kernel, by decide +kernel,
    by decide +kernel, by decide +kernel⟩

theorem witness_PanicEndsEveryNote :
    busy.Serves 1 .command ∧ busy.NotesLaw ∧ busy.switch.state ≠ .armed ∧
    ((armed .atRelease 0 0).switch.state = .armed ∧ (armed .atRelease 0 0).switch.armed = some (asked .atRelease) ∧
      (asked .atRelease).gate = .atRelease ∧ (asked .atBar).gate ≠ .atRelease) ∧
    (({ stage with foots := bankSet stage.foots 0 { timer := some 2000000 } } : State).foot (0 : Fin 4)).timer =
      some 2000000 := ⟨by decide +kernel, busy_notes, by decide +kernel, by decide +kernel, by decide +kernel⟩

/-- The set, its first song beginning with the scene that recalls on link 1. -/
def startUp1 : State :=
  { show2 with store := setStore.set .song 0 (putBytes (songRecord 2 0 []) 18 [1, 1]) }

/-- That set with `n` notices waiting on link 1. -/
def startUpKept (n : Nat) : State :=
  startUp1.setLink 1 { upLink .module .command with queue := List.replicate n ⟨.notice 6 [], 0, none, false⟩ }

/-- A state without copies in which no waiting frame is a NOTE_ON keeps the law. -/
theorem copies_of_none {s : State} (h : s.tracker.copies = [])
    (w : ∀ l : Fin 12, ∀ w ∈ (s.link l).waiting, Frame.kind w.frame ≠ 1 ∧ w.copy = none)
    (r : ∀ r ∈ s.switch.live.recalls, Frame.kind r.frame ≠ 1)
    (t : ∀ l : Fin 12, ∀ f ∈ (s.link l).window.todo, Frame.kind f ≠ 1) : s.CopiesLaw where
  ids := by simp [h]
  fresh := by simp [h]
  pending := by simp [h]
  owned l x hx k := absurd k (by simp [w l x hx])
  recalls := r
  todo := t

theorem startUpKept_copies : ∀ n ∈ [0, 63, 64], (startUpKept n).CopiesLaw := by
  simp only [List.mem_cons, List.not_mem_nil, or_false, forall_eq_or_imp, forall_eq]
  refine ⟨?_, ?_, ?_⟩ <;>
    exact copies_of_none (by decide +kernel) (by decide +kernel) (by decide +kernel) (by decide +kernel)

theorem witness_RestartGivesTheStartUpValues :
    (stage.Serves 0 .full ∧ stage.store.setLength = 0) ∧
    (∀ n ∈ [0, 63, 64], let s := startUpKept n
      s.Serves 0 .full ∧ s.store.setLength ≠ 0 ∧ s.switch.state ≠ .armed ∧
      ((s.link 1).up = true ∧ (s.link 1).role = .module) ∧
      ((Record.recalls (s.store.get .scene (Record.sceneRef (s.store.get .song
        s.store.startSong) 0))).filter (·.link == 1)).map (·.frame) = .program 0 0 5 :: [] ∧
      (((s.grant 0 (.mgmtReq 8 9 [20])).link 1).queue.filter fun w => !Frame.performance w.frame).length = n) ∧
    (∀ n ∈ [0, 63, 64], (startUpKept n).CopiesLaw) ∧
    (startUp1.store.reportLink ≠ (1 : Fin 12) ∧ stage.CopiesLaw ∧ busy.CopiesLaw ∧ busy.Serves 0 .full) :=
  ⟨by decide +kernel, by decide +kernel, startUpKept_copies, by decide +kernel,
    copies_of_none (by decide +kernel) (by decide +kernel) (by decide +kernel) (by decide +kernel), busy_copies,
    by decide +kernel⟩

/-! ### The figures that the rules work out -/

/-- R26's worked velocities. -/
theorem test_velocity_figures :
    ({ wholeZone with scale := 80, offset := -10 } : Zone).outVel 100 = 115 ∧
    ({ wholeZone with scale := 80, offset := -10 } : Zone).outVel 127 = 127 ∧
    ({ wholeZone with scale := 128 } : Zone).outVel 40 = 80 ∧ ({ wholeZone with scale := 32 } : Zone).outVel 90 = 45 ∧
    ({ wholeZone with scale := 16, offset := -4 } : Zone).outVel 5 = 1 := by decide

/-- R128's table. -/
theorem test_increments :
    inc 3000 = 32212 ∧ inc 9000 = 96637 ∧ inc 10000 = 107374 ∧ inc 12000 = 128849 ∧ inc 13200 = 141734 ∧
    inc 30000 = 322123 := by decide

/-- R129's bounds and its correction of +5. -/
theorem test_corrected_increments :
    corrected 3000 (-12) = 30601 ∧ corrected 30000 12 = 338229 ∧ corrected 12000 5 = 131533 := by decide

/-- The two ramps of 7.5. -/
theorem test_ramp_figures :
    ([1, 2, 3, 4, 5, 6, 7, 8].map (Ramp.tempoAt ⟨12000, 13200, 8, 0⟩)) =
      [12150, 12300, 12450, 12600, 12750, 12900, 13050, 13200] ∧
    ([1, 2, 3].map (Ramp.tempoAt ⟨12000, 10000, 3, 0⟩)) = [11334, 10667, 10000] := by decide

/-- 7.6, Worked tap figures. -/
theorem test_tap_figures :
    tapTempo [500000, 510000] = 11881 ∧ tapTempo [500000, 510000, 490000] = 12000 ∧
    tapTempo [480000, 505000] = 12183 := by decide

/-- 10, Example of pedal scaling: lo 80, hi 940. -/
theorem test_pedal_figures :
    scalePedal 500 80 940 = 500 ∧ scalePedal 504 80 940 = 504 ∧ scalePedal 512 80 940 = 514 ∧
    scalePedal 935 80 940 = 1017 ∧ scalePedal 940 80 940 = 1023 ∧ scalePedal 960 80 940 = 1023 := by decide

/-! ### Small tests of the commands -/

/-- R19: power-on from any state: DOWN, and the sent counters 1. -/
theorem test_power_on : ((after .powerOn busy).link 1).up = false ∧ ((after .powerOn busy).link 1).ctr.sent = 1 := by
  decide +kernel

/-- R188: a bad image fails the load. -/
theorem test_image_load_bad_sum : (after (.imageLoadDone 100 [0]) State.reset).mgmt.lastLoad = .failed := by decide +kernel

/-- R188: 300 ms after power-on. -/
theorem test_load_timeout :
    (after .loadTimeout State.reset).now = 300000 ∧ ((after .loadTimeout State.reset).link 0).role = .source := by
  decide +kernel

/-- R2 to R6: the run is judged 20 µs after it arrived, and its frame waits. -/
theorem test_frame_received :
    (after (.frameReceived 0 noteRun) stage).now = 20 ∧
    ((after (.frameReceived 0 noteRun) stage).link 0).fifo = [⟨.noteOn 0 60 100, 0⟩] := by decide +kernel

/-- R2: a run longer than its length field says is bad. -/
theorem test_frame_received_long :
    ((after (.frameReceived 0 ⟨[1, 3, 0, 60, 100, 92, 0], false, 0⟩) stage).link 0).ctr.bad = 1 := by decide +kernel

/-- R12, R58: the notes of a lost SOURCE end. -/
theorem test_silence_of_a_source : (after (.silenceTimerExpiry 0) (sounding .keyed [])).tracker.table = [] := by
  decide +kernel

/-- R69, R58: the release velocity of a lost SOURCE's notes is 64. -/
theorem test_silence_releases :
    ((after (.silenceTimerExpiry 0) (sounding .keyed [])).link 1).release = [(60, 64)] := by decide +kernel

theorem test_note_on : (after (.noteOn 0 3 60 100) stage).tracker.counts = [(destAddr 1 3 60, 1)] := by decide +kernel

/-- R48: a re-strike releases the sounding copy before the new one waits. -/
theorem test_note_on_again :
    (after (.noteOn 0 0 60 90) (sounding .keyed [])).tracker.ctr.reStrikes = 1 ∧
    ((after (.noteOn 0 0 60 90) (sounding .keyed [])).link 1).release = [(60, 64)] := by decide +kernel

/-- R45: the NOTE_ON of a PENDING copy is withdrawn. -/
theorem test_note_off_withdraws :
    ((after (.noteOff 0 0 60 5) played).link 1).queue = [] ∧
    ((after (.noteOff 0 0 60 5) played).link 1).out.withdrawals = 1 := by decide +kernel

/-- R53: the NOTE_OFF's own release velocity. -/
theorem test_note_off_posts : ((after (.noteOff 0 0 60 5) (sounding .keyed [])).link 1).release = [(60, 5)] := by
  decide +kernel

theorem test_pressure_of_a_key :
    (((after (.pressure 0 0 60 7) (sounding .keyed [])).link 1).queue.map (·.frame)) = [.pressure 0 60 7] := by
  decide +kernel

theorem test_pressure_of_a_channel :
    (((after (.pressure 0 4 255 7) stage).link 1).queue.map (·.frame)) = [.pressure 4 255 7] := by decide +kernel

/-- R72: the second value takes the place of the first. -/
theorem test_control_coalesces :
    (((after (.control 0 2 1 320) (after (.control 0 2 1 300) stage)).link 1).queue.map (·.frame)) =
      [.control 2 1 320] := by decide +kernel

theorem test_bend : (((after (.bend 0 2 8192) stage).link 1).queue.map (·.frame)) = [.bend 2 8192] := by decide +kernel

theorem test_hold_on : (after (.hold 0 0 31 1) stage).tracker.holds = [(31, 1)] := by decide +kernel

/-- R56: the SUSTAINED entry goes when the pedal is lifted. -/
theorem test_hold_off : (after (.hold 0 0 0 0) (sounding .sustained [(0, 1)])).tracker.table = [] := by decide +kernel

/-- R144 to R146: an interval of 500,000 µs is 120.00 BPM; the frame is taken 20 µs after it arrived. -/
theorem test_beat_locking :
    (after (.beat 0 500000 1 0 4 9000) (following .seek)).now = 500020 ∧
    (after (.beat 0 500000 1 0 4 9000) (following .seek)).follow.state = .locking ∧
    (after (.beat 0 500000 1 0 4 9000) (following .seek)).beat.tempo = 12000 := by decide +kernel

/-- R148: in LOCKED an eighth of the difference: 12000 to 12000 + 1500 / 8, truncated. -/
theorem test_beat_locked : (after (.beat 0 444444 1 0 4 9000) (following .locked)).beat.tempo = 12187 := by decide +kernel

/-- R144, R130, R152: the frame of 500,000 µs is taken 4200 µs after the state's instant, two pulses of 2083.3 µs
later: pulse 238, so that e is 2 and c is 1. -/
theorem test_beat_reads_the_pulse :
    let t := after (.beat 0 500000 1 0 4 12000)
      { following .locked with now := 495820, beat := { transport := .running, pulse := 236 } }
    t.beat.pulse = 238 ∧ t.follow.correction = some 1 := by decide +kernel

/-- R144, R158: a frame taken in LOCKED carries out the START that is pending. -/
theorem test_beat_starts :
    (after (.beat 0 500000 1 0 4 12000) { following .locked with beat := { startPending := true } }).beat.transport =
      .running := by decide +kernel

/-- R149: HOLDOVER, two beats of 500,000 µs after the last. -/
theorem test_follow_silence :
    (after .followSilenceTimerExpiry (following .locked)).now = 1000000 ∧
    (after .followSilenceTimerExpiry (following .locked)).follow.state = .holdover := by decide +kernel

/-- R130: a pulse that falls due before the transmitter is free is taken before the next frame starts. -/
theorem test_transmit_start_takes_the_pulse : (after (.transmitStart 1) ({ played with
    beat := { transport := .running, pulse := 118 } }.setLink 1 { played.link 1 with freeAt := 3000 })).beat.pulse = 119 := by
  decide +kernel

/-- R47: the copy is SENT when its NOTE_ON starts. -/
theorem test_transmit_start :
    ((after (.transmitStart 1) played).tracker.copies.map (·.state)) = [.sent] ∧
    ((after (.transmitStart 1) played).link 1).freeAt = 80 := by decide +kernel

theorem test_frame_transmitted :
    ((after (.frameTransmitted 4) State.reset).link 4).onLine = none ∧ (after (.frameTransmitted 4) State.reset).now = 50 := by
  decide +kernel

/-- R17: the presence of a READY MODULE link. -/
theorem test_presence :
    (((after (.presenceTimerExpiry 1) stage).link 1).onLine.map (·.frame)) = some (.presence .module .ready) := by
  decide +kernel

theorem test_recall_feed :
    (((after (.recallFeed 1) (windowed { state := .sending, todo := [.program 0 0 5] })).link 1).queue.map
      (·.fromRecall)) = [true] := by decide +kernel

/-- R121: the last report ends the recall. -/
theorem test_settle_timer : (after (.settleTimerExpiry 1) (settling [1])).switch.state = .idle := by decide +kernel

theorem test_drain_move : ((after (.drainMove 1) (windowed { state := .draining })).link 1).window.state = .closed := by
  decide +kernel

theorem test_late_timer : ((after (.lateTimerExpiry 1) timed).link 1).late = none := by decide +kernel

theorem test_table_full_timer : (after .tableFullTimerExpiry timed).tracker.tableFull = none := by decide +kernel

/-- R130: at T = 12000 a pulse takes 2083.3 µs, so the first comes after 2084 additions. -/
theorem test_pulse : (after .pulse (moving 0)).now = 2084 ∧ (after .pulse (moving 0)).beat.pulse = 1 := by decide +kernel

/-- R162: the CLICK link gets the BEAT and the CLICK of beat 1, at the default accent 2. -/
theorem test_beat_boundary :
    ((after .beatBoundary (moving 239)).link 2).realTime = [.beat 1 1 4 12000, .click 2 1 0] := by decide +kernel

/-- 10, Example of pedal scaling, step 1. -/
theorem test_pedal_evaluation :
    (after (.pedalEvaluation 0 0 [498, 501, 499, 503, 500, 502, 497, 501]) (pedalStage {})).events =
      [.control 0 2 11 500] := by decide +kernel

/-- R167: one sample joins the history of eight, and the next comes a millisecond later. -/
theorem test_pedal_sample :
    let x := (after (.pedalEvaluation 0 5 [7]) (pedalStage { history := eight 9, phase := 6 })).pedal 0
    x.history = [9, 9, 9, 9, 9, 9, 9, 7] ∧ x.phase = 7 ∧ x.next = 1005 := by decide +kernel

/-- R169: 504 differs from 500 by less than 8. -/
theorem test_pedal_small_step :
    (after (.pedalEvaluation 0 0 (eight 504)) (pedalStage { last := some 500 })).events = [] := by decide +kernel

theorem test_footswitch_press :
    (after (.footswitchPress 0 0) (footStage 1 0 0 up0)).switch.position = ⟨0, 1⟩ := by decide +kernel

theorem test_footswitch_release :
    (after (.footswitchRelease 0 0) (footStage 9 5 6 down0)).events = [.hold 0 5 6 0] := by decide +kernel

/-- R172: the second low sample in a row is the press (D is 2, CLOSED_PRESSED). -/
theorem test_footswitch_sample :
    ((after (.footswitchSample 0 0 false) (footStage 9 5 6 up0)).foot 0).run = 1 ∧
    (after (.footswitchSample 0 0 false) (footStage 9 5 6 { up0 with run := 1 })).events = [.hold 0 5 6 1] := by
  decide +kernel

/-- R172: the first sample sets the accepted state, with no press; before it nothing is accepted. -/
theorem test_footswitch_first_sample :
    ((after (.footswitchSample 0 0 false) (footStage 9 5 6 {})).foot 0).pressed = true ∧
    (after (.footswitchSample 0 0 false) (footStage 9 5 6 {})).events = [] ∧
    after (.footswitchPress 0 0) (footStage 9 5 6 {}) = footStage 9 5 6 {} := by decide +kernel

theorem test_panic_hold_timer :
    (after (.panicHoldTimerExpiry 0) { sounding .keyed [] with
      foots := bankSet stage.foots 0 { timer := some 5 } }).tracker.table = [] := by decide +kernel

theorem test_edit_slot_timeout : (after (.editSlotTimeout 3) timed).slot 3 = none := by decide +kernel

theorem test_save_timeout : (after .saveTimeout saving).mgmt.lastSave = .failed := by decide +kernel

theorem test_save_done_bad : (after (.saveDone 5 []) saving).mgmt.lastSave = .failed := by decide +kernel

/-- The frames that wait in the output queue of link 0 after a command. -/
def told (c : Instr) (s : State) : List Frame := ((after c s).link 0).queue.map (·.frame)

/-- R179: product 0x0207, version 1248. -/
theorem test_identify : told (.identify 0 9 [0]) stage = [.mgmtReply 1 9 0 [2, 7, 4, 224]] := by decide +kernel

/-- R180: 2 bytes from offset 19 of a default scene record, after its generation. -/
theorem test_read : told (.read 0 9 [0, 63, 0, 19, 2]) stage = [.mgmtReply 2 9 0 [0, 0, 4, 1]] := by decide +kernel

/-- R181: a section index out of range. -/
theorem test_status_range : told (.status 0 9 [4, 12, 0]) stage = [.mgmtReply 3 9 4 []] := by decide +kernel

theorem test_edit_open : told (.editOpen 0 9 [5, 0]) stage = [.mgmtReply 4 9 0 [0, 0, 0]] := by decide +kernel

theorem test_edit_put :
    told (.editPut 0 9 [0, 0, 10, 1]) (editing .system Record.defaultSystem) = [.mgmtReply 5 9 4 []] := by decide +kernel

theorem test_edit_abandon_not_owner : told (.editAbandon 0 9 [2]) stage = [.mgmtReply 7 9 6 []] := by decide +kernel

/-- R183: the new generation is 1. -/
theorem test_edit_commit :
    told (.editCommit 0 9 [0, 0, 0]) (editing .song (songRecord 1 0 [])) = [.mgmtReply 6 9 0 [0, 1]] := by decide +kernel

/-- R94: 17 beats per bar fails at offset 19. -/
theorem test_edit_commit_invalid :
    told (.editCommit 0 9 [0, 0, 0]) (editing .scene (sceneRecord 19 [17])) = [.mgmtReply 6 9 8 [0, 19]] := by
  decide +kernel

/-- R124: the reply to SELECT of song 1: IDLE once committed without a recall, and the SWITCH_DONE notice. -/
theorem test_select :
    told (.select 0 9 [1, 0, 0, 0]) show2 = [.notice 3 [1, 0, 0, 0, 0, 0], .mgmtReply 8 9 0 [1, 0, 0, 1]] := by
  decide +kernel

/-- R120: scene 1 recalls on link 1, so the reply says RECALLING. -/
theorem test_next_scene : told (.nextScene 0 9 [0, 0]) show2 = [.mgmtReply 8 9 0 [0, 1, 2, 1]] := by decide +kernel

theorem test_prev_scene : told (.prevScene 0 9 [0, 0]) show2 = [.mgmtReply 8 9 9 []] := by decide +kernel
/-- R159: the pulse that fell due before the switch is taken before its commit stops the transport. -/
theorem test_next_song_catches_up : (after (.nextSong 0 9 [0, 0]) { show2 with
    beat := { transport := .running, pulse := 118, owed := 1, fraction := 200000000 } }).beat.pulse = 119 := by
  decide +kernel
theorem test_next_song : (after (.nextSong 0 9 [0, 0]) show2).switch.position = ⟨1, 0⟩ := by decide +kernel
theorem test_prev_song : (after (.prevSong 0 9 [0, 0]) (placed 1 0)).switch.position = ⟨0, 0⟩ := by decide +kernel
theorem test_apply_without_set : told (.apply 0 9 [0, 0]) stage = [.mgmtReply 8 9 10 []] := by decide +kernel
theorem test_cancel_switch : told (.cancelSwitch 0 9 []) (armed .atBar 0 0) = [.mgmtReply 8 9 0 [1]] := by decide +kernel
theorem test_engage_overlay_range : told (.engageOverlay 0 9 [0]) stage = [.mgmtReply 8 9 4 []] := by decide +kernel
theorem test_release_overlay : (after (.releaseOverlay 0 9 [0]) busy).engaged = [] := by decide +kernel
theorem test_start : told (.start 0 9 []) stage = [.mgmtReply 8 9 0 [2, 0]] := by decide +kernel
theorem test_start_pending : told (.start 0 9 []) (following .locked) = [.mgmtReply 8 9 0 [0, 1]] := by decide +kernel
theorem test_stop : told (.stop 0 9 []) (moving 7) = [.mgmtReply 8 9 0 [0, 0]] := by decide +kernel
/-- 7.6: T becomes 11881 with two intervals in the list. -/
theorem test_tap : told (.tap 0 9 []) (tapped 510000 [500000]) = [.mgmtReply 8 9 0 [46, 105, 2]] := by decide +kernel
/-- R130, R137: of three advances owed at pulse 118 two fell due before the tap, which stands at pulse 120 then and so
begins the next beat. -/
theorem test_tap_catches_up : (after (.tap 0 9 []) { tapped 510000 [500000] with
    beat := { (tapped 510000 [500000]).beat with transport := .running, pulse := 118, owed := 3 } }).beat.index = 1 := by
  decide +kernel
/-- R139: 2500 is limited to 3000. -/
theorem test_set_tempo : told (.setTempo 0 9 [9, 196]) stage = [.mgmtReply 8 9 0 [11, 184]] := by decide +kernel
theorem test_panic : ((after (.panic 0 9 []) played).link 1).silenceFlag = true := by decide +kernel
theorem test_histogram_enable : (after (.histogramEnable 0 9 [1]) stage).counting = true := by decide +kernel
theorem test_histogram_clear : ((after (.histogramClear 0 9 []) timed).link 1).late = none := by decide +kernel
theorem test_clear_stats : (after (.clearStats 0 9 []) (after (.noteOff 0 0 1 0) stage)).tracker.ctr = {} := by
  decide +kernel
theorem test_clear_fault :
    (after (.clearFault 0 9 []) { stage with mgmt := { fault := some ⟨0, 4, 0, 0⟩, later := 3 } }).mgmt.later = 0 := by
  decide +kernel
theorem test_save_image : ((after (.saveImage 0 9 []) stage).mgmt.save.map (·.expires)) = some 1500000 := by
  decide +kernel
theorem test_restart : (after (.restart 0 9 []) (moving 100)).beat.pulse = 0 := by decide +kernel
theorem test_not_routed : ((after (.frameNotRouted 0 (.silence 3)) stage).link 0).ctr.notRouted = 1 := by decide +kernel
/-- R178: the DENIED reply goes before the FAULT notice that records it. -/
theorem test_denied_then_fault :
    told (.editOpen 0 9 [5, 0]) (ranked .read) = [.mgmtReply 4 9 2 [], .notice 6 [0, 4, 5, 0]] := by decide +kernel

/-- R177: a request code beyond 8. -/
theorem test_unknown_request : told (.unknownRequestCode 0 9 1 []) stage = [.mgmtReply 9 1 3 []] := by decide +kernel

/-- No word of the table spells a command, so the host's question leaves the state as it is. -/
theorem test_no_table_words : decodeTableWord 0 0 = none ∧ State.withFetchWord stage 0 0 = stage := ⟨rfl, rfl⟩

end Sys2Proof.Tests
end

section
/-! The out velocity of a copy and the candidate list of an event. -/
namespace Sys2Proof.Machine

/-! ### The limit and the out velocity -/

theorem limitInt_mem {lo hi : Int} (h : lo ≤ hi) (x : Int) : lo ≤ limitInt lo hi x ∧ limitInt lo hi x ≤ hi := by
  unfold limitInt
  split
  · exact ⟨le_rfl, h⟩
  · split <;> omega

theorem limitInt_of_mem {lo hi x : Int} (hl : lo ≤ x) (hh : x ≤ hi) : limitInt lo hi x = x := by
  rw [limitInt, if_neg (by omega), if_neg (by omega)]

theorem limitInt_of_lt {lo hi x : Int} (h : x < lo) : limitInt lo hi x = lo := if_pos h

theorem limitInt_of_gt {lo hi x : Int} (hlh : lo ≤ hi) (h : hi < x) : limitInt lo hi x = hi := by
  rw [limitInt, if_neg (by omega), if_pos h]

/-- R26, step 3 at a sum within the limits. -/
theorem Zone.outVel_of_mem {z : Zone} {v k : Nat} (hk : (k : Int) = ((v * z.scale + 32) / 64 : Nat) + z.offset)
    (h1 : 1 ≤ k) (h2 : k ≤ 127) : z.outVel v = k := by
  rw [Zone.outVel, ← hk, limitInt_of_mem (by omega) (by omega), Int.toNat_natCast]

/-- Settles O14: the limit in its three cases; scale 64 rounds 64 × v + 32 back to v. -/
theorem velocityIsScaledAndLimited : Obligations.VelocityIsScaledAndLimited := by
  intro z v
  refine ⟨?_, fun _ => Zone.outVel_of_mem, fun h => ?_, fun h => ?_, fun hs ho h1 h2 => ?_⟩
  · have := limitInt_mem (lo := 1) (hi := 127) (by decide) (((v * z.scale + 32) / 64 : Nat) + z.offset)
    unfold Zone.outVel
    omega
  · rw [Zone.outVel, limitInt_of_lt h, Int.toNat_one]
  · rw [Zone.outVel, limitInt_of_gt (by decide) h]
    rfl
  · have unscaled : (v * z.scale + 32) / 64 = v := by rw [hs]; omega
    exact Zone.outVel_of_mem (by rw [unscaled, ho, add_zero]) h1 h2

/-! ### The overlay that takes a source over -/

/-- R22: the overlay of number `i` is a REPLACE overlay with at least one zone of `src`. -/
def Live.TakesOver (live : Live) (src i : Nat) : Prop :=
  ∃ o, live.overlays[i]? = some o ∧ o.replace = true ∧ o.zones.filter (·.source == src) ≠ []

/-- `Live.replacing` tests an overlay for what `Live.TakesOver` says. -/
theorem Overlay.replaces_iff (o : Overlay) (src : Nat) :
    (o.replace && o.zones.any (·.source == src)) = true ↔
      o.replace = true ∧ o.zones.filter (·.source == src) ≠ [] := by
  simp [List.filter_eq_nil_iff]

/-- An engagement in front of a takeover is hidden. -/
theorem Live.replacing_cons_of_some {live : Live} {src : Nat} {later : List Nat} {found : Overlay × List Nat}
    (h : live.replacing src later = some found) (i : Nat) : live.replacing src (i :: later) = some found := by
  rw [Live.replacing, h]

theorem Live.replacing_cons_of_takesOver {live : Live} {src i : Nat} {o : Overlay} {later : List Nat}
    (h : live.replacing src later = none) (ho : live.overlays[i]? = some o) (hr : o.replace = true)
    (hz : o.zones.filter (·.source == src) ≠ []) : live.replacing src (i :: later) = some (o, later) := by
  simp only [Live.replacing, h, ho, (o.replaces_iff src).2 ⟨hr, hz⟩, if_true]

theorem Live.replacing_eq_none {live : Live} {src : Nat} :
    ∀ {e : List Nat}, (∀ j ∈ e, ¬ live.TakesOver src j) → live.replacing src e = none
  | [], _ => rfl
  | i :: later, h => by
    obtain ⟨hi, hlater⟩ := List.forall_mem_cons.1 h
    rw [Live.replacing, Live.replacing_eq_none hlater]
    cases ho : live.overlays[i]? with
    | none => rfl
    | some o => exact if_neg fun ht => hi ⟨o, ho, (o.replaces_iff src).1 ht⟩

theorem Live.replacing_of_newest {live : Live} {src i : Nat} {o : Overlay} {newer : List Nat}
    (ho : live.overlays[i]? = some o) (hr : o.replace = true) (hz : o.zones.filter (·.source == src) ≠ [])
    (hn : ∀ j ∈ newer, ¬ live.TakesOver src j) :
    ∀ older : List Nat, live.replacing src (older ++ i :: newer) = some (o, newer)
  | [] => Live.replacing_cons_of_takesOver (Live.replacing_eq_none hn) ho hr hz
  | j :: older => Live.replacing_cons_of_some (Live.replacing_of_newest ho hr hz hn older) j

/-- Of a list of engagements none takes `src` over, or there is a newest one that does. -/
theorem Live.none_or_newest_takesOver (live : Live) (src : Nat) (e : List Nat) :
    (∀ j ∈ e, ¬ live.TakesOver src j) ∨
      ∃ older i newer, e = older ++ i :: newer ∧ live.TakesOver src i ∧ ∀ j ∈ newer, ¬ live.TakesOver src j := by
  induction e with
  | nil => exact .inl fun _ h => absurd h List.not_mem_nil
  | cons i later ih =>
    obtain hnone | ⟨older, k, newer, rfl, hk, hnewer⟩ := ih
    · by_cases hi : live.TakesOver src i
      · exact .inr ⟨[], i, later, rfl, hi, hnone⟩
      · exact .inl (List.forall_mem_cons.2 ⟨hi, hnone⟩)
    · exact .inr ⟨i :: older, k, newer, rfl, hk, hnewer⟩

/-! ### The candidate list -/

/-- R22, "R exists". -/
theorem Live.candidates_of_newest {live : Live} {src i : Nat} {o : Overlay} (older : List Nat) {newer : List Nat}
    (ho : live.overlays[i]? = some o) (hr : o.replace = true) (hz : o.zones.filter (·.source == src) ≠ [])
    (hn : ∀ j ∈ newer, ¬ live.TakesOver src j) :
    live.candidates (older ++ i :: newer) src = o.zones.filter (·.source == src) ++ live.addZones src newer := by
  rw [Live.candidates, Live.replacing_of_newest ho hr hz hn older]

/-- R22, "R does not exist". -/
theorem Live.candidates_of_none {live : Live} {src : Nat} {e : List Nat} (h : ∀ j ∈ e, ¬ live.TakesOver src j) :
    live.candidates e src = live.zones.filter (·.source == src) ++ live.addZones src e := by
  rw [Live.candidates, Live.replacing_eq_none h]

theorem Live.addZones_cons (live : Live) (src i : Nat) (e : List Nat) :
    live.addZones src (i :: e) = live.addZones src [i] ++ live.addZones src e := by
  simp [Live.addZones]

/-- One engagement adds at most its overlay's zones, and none where there is no such overlay. -/
theorem Live.length_addZones_singleton_le {live : Live} {n : Nat} (hz : ∀ o ∈ live.overlays, o.zones.length ≤ n)
    (src i : Nat) : (live.addZones src [i]).length ≤ if i < live.overlays.length then n else 0 := by
  rw [Live.addZones, List.flatMap_singleton]
  by_cases hi : i < live.overlays.length
  · rw [if_pos hi, List.getElem?_eq_getElem hi]
    dsimp only
    split
    · exact Nat.zero_le n
    · exact (List.length_filter_le ..).trans (hz _ (List.getElem_mem hi))
  · rw [if_neg hi, List.getElem?_eq_none (Nat.le_of_not_lt hi), List.length_nil]

theorem Live.length_addZones_le_mul {live : Live} {n : Nat} (hz : ∀ o ∈ live.overlays, o.zones.length ≤ n)
    (src : Nat) (e : List Nat) :
    (live.addZones src e).length ≤ n * (e.filter (· < live.overlays.length)).length := by
  induction e with
  | nil => exact Nat.zero_le _
  | cons i e ih =>
    have hi := Live.length_addZones_singleton_le hz src i
    rw [Live.addZones_cons, List.length_append]
    by_cases hlt : i < live.overlays.length
    · rw [if_pos hlt] at hi
      rw [List.filter_cons_of_pos (by simpa using hlt), List.length_cons, Nat.mul_succ]
      omega
    · rw [if_neg hlt] at hi
      rw [List.filter_cons_of_neg (by simpa using hlt)]
      omega

/-- Engagements without duplicates name each overlay at most once. -/
theorem length_filter_lt_le_of_nodup {e : List Nat} (he : e.Nodup) (n : Nat) : (e.filter (· < n)).length ≤ n := by
  have below : e.filter (· < n) ⊆ List.range n := fun i hi => by simpa using (List.mem_filter.1 hi).2
  simpa using ((he.filter _).subperm below).length_le

theorem Live.length_addZones_le {live : Live} {n : Nat} (hz : ∀ o ∈ live.overlays, o.zones.length ≤ n)
    {e : List Nat} (he : e.Nodup) (src : Nat) : (live.addZones src e).length ≤ n * live.overlays.length :=
  (Live.length_addZones_le_mul hz src e).trans
    (Nat.mul_le_mul_left n (length_filter_lt_le_of_nodup he live.overlays.length))

/-- R22: 32 zones at most; a takeover leaves at most 4 + 16. -/
theorem Live.length_candidates_le {live : Live} {e : List Nat} (he : e.Nodup) (hs : live.zones.length ≤ 16)
    (ho : live.overlays.length ≤ 4) (hz : ∀ o ∈ live.overlays, o.zones.length ≤ 4) (src : Nat) :
    (live.candidates e src).length ≤ 32 := by
  obtain hnone | ⟨older, i, newer, rfl, ⟨o, hi, hr, hmine⟩, hnewer⟩ := live.none_or_newest_takesOver src e
  · have hadd := Live.length_addZones_le hz he src
    have hscene := List.length_filter_le (·.source == src) live.zones
    rw [Live.candidates_of_none hnone, List.length_append]
    omega
  · have hadd := Live.length_addZones_le hz (List.nodup_cons.1 (List.nodup_append.1 he).2.1).2 src
    have hover := (List.length_filter_le (·.source == src) o.zones).trans (hz o (List.mem_of_getElem? hi))
    rw [Live.candidates_of_newest older hi hr hmine hnewer, List.length_append]
    omega

/-- Settles O31, from the newest engagement that takes the source over, found by induction on the engaged list. -/
theorem candidatesFollowTheOverlays : Obligations.CandidatesFollowTheOverlays := by
  intro live src
  exact ⟨fun older _ _ _ ho hr hz hn => Live.candidates_of_newest older ho hr hz hn,
    fun _ hnone => Live.candidates_of_none hnone,
    fun _ he hs ho hz => Live.length_candidates_le he hs ho hz src⟩

end Sys2Proof.Machine
end

section
/-! A NOTE_OFF that is counted as unmatched or ends its entry. -/
namespace Sys2Proof.Machine

/-! ### The delivery of a routed frame -/

/-- R6: a grant changes of each link at most the receive FIFO. -/
theorem State.link_grant_only (s : State) {pos : Nat} (h : pos < 12) (f : Frame) (m : Nat) :
    { (s.grant pos f).link m with fifo := (s.link m).fifo } = s.link m := by
  unfold State.grant
  dsimp only
  split
  · split
    · rw [State.link_onLink _ _ _ _ h]
      split <;> rfl
    · rfl
  · rfl

theorem State.grant_tracker (s : State) (pos : Nat) (f : Frame) : (s.grant pos f).tracker = s.tracker :=
  (congrArg State.tracker (s.grant_only pos f).1 :)

theorem State.routes_grant (s : State) {pos : Nat} (h : pos < 12) (f : Frame) (l : Nat) :
    (s.grant pos f).routes l = s.routes l := by
  have hpart : (s.grant pos f).part = s.part :=
    (congrArg State.part (s.grant_only pos f).1 :)
  have hrole : ((s.grant pos f).link l).role = (s.link l).role :=
    (congrArg Link.role (s.link_grant_only h f l) :)
  rw [State.routes, State.routes, hpart, hrole]

/-- R8: the delivery that the rules route is the grant and then the block's work. -/
theorem State.deliver_of_routed {s : State} {l : Fin 12} {f : Frame} (h : s.Routed l f) (route : State → State) :
    s.deliver l f route = .next (route (s.grant l f)) := by
  obtain ⟨accepted, ready, source⟩ := h
  have routes : s.routes l = true := by simp [State.routes, ready, source]
  simp [State.deliver, accepted, s.routes_grant l.isLt, routes]

theorem exec_noteOff_of_routed {s : State} {l : Fin 12} {ch key vel : Nat} (h : s.Routed l (.noteOff ch key vel)) :
    exec (.noteOff l ch key vel) s = .next ((s.grant l (.noteOff ch key vel)).liftKey l ch key vel) :=
  State.deliver_of_routed h fun s => s.liftKey l ch key vel

/-! ### The entry of a key, and its release -/

theorem State.entry_congr {s t : State} (h : t.tracker = s.tracker) (src ch key : Nat) :
    t.entry src ch key = s.entry src ch key := by rw [State.entry, State.entry, h]

theorem State.held_congr {s t : State} (h : t.tracker = s.tracker) (src ch : Nat) :
    t.held src ch = s.held src ch := by rw [State.held, State.held, h]

/-- R41: the entry found for a key is one of that source, channel and key. -/
theorem State.entry_names {s : State} {src ch key : Nat} {e : Entry} (h : s.entry src ch key = some e) :
    e.src = src ∧ e.ch = ch ∧ e.key = key := by
  have isFor : Entry.isFor src ch key e = true := List.find?_some (p := Entry.isFor src ch key) h
  simpa [Entry.isFor, and_assoc] using isFor

/-- R45: the release of copies leaves every entry of the table as it is. -/
theorem State.releaseCopies_table (vel : Nat) (copies : List Copy) (s : State) :
    (copies.foldl (State.releaseCopy vel) s).tracker.table = s.tracker.table :=
  foldl_only (fun s t => t.tracker.table = s.tracker.table) (fun _ => rfl) (fun h g => g.trans h) _
    (fun s c => (congrArg Tracker.table (s.releaseCopy_tracker vel c) :)) copies s

/-- R46: the release of an entry whole is the release of its copies and the table without it. -/
theorem State.releaseEntry_of_entry {s : State} {src ch key : Nat} {e : Entry} (h : s.entry src ch key = some e)
    (vel : Nat) :
    let u := e.copies.foldl (State.releaseCopy vel) s
    s.releaseEntry vel e = { u with tracker := { u.tracker with
      table := s.tracker.table.filter fun x => !Entry.isFor src ch key x } } := by
  obtain ⟨rfl, rfl, rfl⟩ := State.entry_names h
  rw [← State.releaseCopies_table vel e.copies s]
  rfl

/-! ### The two forms of R53 -/

theorem State.liftKey_of_unmatched {s : State} {src ch key : Nat} (h : s.entry src ch key = none) (vel : Nat) :
    s.liftKey src ch key vel =
      s.countTracker fun c => { c with unmatchedReleases := bump c.unmatchedReleases 1 } := by
  simp [State.liftKey, h]

theorem State.liftKey_of_holdClear {s : State} {src ch key : Nat} {e : Entry} (h : s.entry src ch key = some e)
    (clear : s.held src ch = false) (vel : Nat) :
    s.liftKey src ch key vel = (s.releaseEntry vel e).releaseReport := by
  simp [State.liftKey, h, clear]

/-- Settles O36: the grant leaves the note tracker alone, so R53's two forms on the granted state look up the entry
and the hold flag of the state before. -/
theorem noteOffEndsItsEntry : Obligations.NoteOffEndsItsEntry := by
  intro l ch key vel s routed
  have same := s.grant_tracker l (.noteOff ch key vel)
  dsimp only
  rw [exec_noteOff_of_routed routed, ← State.entry_congr same, ← State.held_congr same, ← same]
  refine ⟨fun unmatched => ?_, fun e found clear => ?_⟩
  · rw [State.liftKey_of_unmatched unmatched]
    rfl
  · rw [State.liftKey_of_holdClear found clear, State.releaseEntry_of_entry found]

end Sys2Proof.Machine
end
